-- ==== Sys2Proof/Word.lean ====
section
/-! DEFINITION. The widths of the bus (spec/00_scope.md R7: ADDR_WIDTH 16, DATA_WIDTH 8; spec/30_encoding.md R90: the 24-bit
operation word W) as abbreviations, so that the lemmas about BitVec apply to them. -/

namespace Sys2Proof

/-- One byte of bus data (R7 DATA_WIDTH). -/
abbrev Byte := BitVec 8

/-- One bus address (R7 ADDR_WIDTH). -/
abbrev Addr := BitVec 16

/-- One write transaction as one word, `W = A ++ D` (R90). -/
abbrev BusWord := BitVec 24

end Sys2Proof
end

