-- ==== Sys2Proof/Config.lean ====
section
/-! DEFINITION. What a cartridge fixes (the straps of spec/00_scope.md R7 and spec/10_state.md R28), the values the model names
for reset, the vocabulary of the RTC port (R33), and the open values: constants with no body, of which nothing can be proved. -/

namespace Sys2Proof

/-- The five strapped controller variants, a closed set (spec/00_scope.md R1, R7). -/
inductive Variant where
  | plain
  | mbc1
  | mbc2
  | mbc3
  | mbc5
  deriving DecidableEq, Repr

/-- The straps: the configuration a LOAD writes and nothing else changes (R7, R28). -/
structure Straps where
  /-- the controller variant, which selects the opcode map (R101) -/
  variant : Variant
  /-- the number of 0x4000-byte ROM banks -/
  romBankCount : Nat
  /-- the number of 0x2000-byte RAM banks, possibly 0 -/
  ramBankCount : Nat
  /-- the cartridge has the real-time-clock chip -/
  hasRtc : Bool
  /-- the cartridge has battery-backed save RAM; no rule of the decoder reads it -/
  hasBattery : Bool
  /-- multicart compatibility was asked for at load; it enters only through `multi64Quirk` -/
  multicartCompat : Bool
  /-- the MBC1 64-bank multicart wiring (R29) -/
  multi64Quirk : Bool
  deriving DecidableEq, Repr

/-- The commands the decoder and the host operations send on the RTC port (R33). -/
inductive RtcCommand where
  | setEnabled (enabled : Bool)
  | swapActive (selector : Byte)
  | latch (data : Byte)
  | capture
  | restore (saved : List Byte) (enabled : Bool)
  deriving DecidableEq, Repr

/-- What may change the RTC Model's answer to `getActive()`: by R34 (e) only `setEnabled`, `swapActive` and `restore`, and,
between cartridges, a LOAD, which leaves the RTC Model in a state of its own (R48). -/
inductive RtcEvent where
  | setEnabled (enabled : Bool)
  | swapActive (selector : Byte)
  | restore (saved : List Byte) (enabled : Bool)
  | newCartridge
  deriving DecidableEq, Repr

namespace Config

/-- ROM_BANK_SIZE (R7). -/
def romBankSize : Nat := 0x4000

/-- RAM_BANK_SIZE (R7). -/
def ramBankSize : Nat := 0x2000

/-- The CPU address of the cartridge RAM window: PRESUMED, the spec's D21 from general knowledge (spec/20_memory.md R70);
log entry 14. No rule of the decoder reads it. -/
def ramWindowBase : Nat := 0xA000

/-- The straps `State.reset` holds. DESIGN CHOICE, log entry 2: the spec leaves every strap to the LOAD that resets the decoder;
these are the straps of the configuration line of spec/95_test_vectors.md PRG5 (`variant=MBC2 rom=16 ram=1 rtc=0 multi=0`). -/
def resetStraps : Straps where
  variant := .mbc2
  romBankCount := 16
  ramBankCount := 1
  hasRtc := false
  hasBattery := false
  multicartCompat := false
  multi64Quirk := false

/-- The register values a successful LOAD leaves (spec/10_state.md R46; the spec's decision D1): log entry 1. -/
def resetRomBankSelect : BitVec 9 := 1

/-- R46; log entry 1. -/
def resetRamBankSelect : BitVec 4 := 0

/-- FREE VALUE, log entry 6: what the RTC Model answers to `getActive()` where the contract R34 (a) to (e) fixes no answer, as
an unknown function of everything that may have changed the answer, newest first. -/
opaque rtcAnswer : List RtcEvent → Bool

/-- FREE VALUE, log entry 8: the RTC Model's own serialized fields at the n-th CAPTURE (spec/44_host_operations.md R206, R213). -/
opaque rtcSaved : Nat → List Byte

/-- FREE VALUE, log entry 27: the RTC base time the surrounding software persists (R212), as an unknown function of the commands
issued on the RTC port and of which call of the accessor it is: the clock runs between two calls. -/
opaque rtcBlob : List RtcCommand → Nat → List Byte

/-- FREE VALUE, log entry 17: the mapper-type byte's variant in the loader's fixed table, `none` for an unsupported byte
(spec/44_host_operations.md R202; the table is not in the source). -/
opaque mapperVariant : Byte → Option Variant

/-- FREE VALUE, log entry 17: the closed set of mapper-type bytes with an RTC (R203). -/
opaque mapperHasRtc : Byte → Bool

/-- FREE VALUE, log entry 17: the closed set of mapper-type bytes with a battery (R203). -/
opaque mapperHasBattery : Byte → Bool

/-- FREE VALUE, log entry 17: the RAM-bank count the loader's table gives a header, `none` for an undocumented size (R203). -/
opaque headerRamBanks : List Byte → Option Nat

/-- FREE VALUE, log entry 17: the CGB-capability bit of a header (R203). -/
opaque headerCgb : List Byte → Bool

end Config
end Sys2Proof
end

