-- ==== Sys2Proof/Syntax.lean ====
section
/-! DEFINITION. The operations of the opcode map, one constructor per row of spec/opcode_table.json (spec/30_encoding.md R94),
with the operand fields of R92 as arguments. -/

namespace Sys2Proof

/-- One decoded bus write. An operand is a field of the data byte `D`; don't-care bits are no operands (R100). -/
inductive Instr where
  /-- `PLAIN.RAMEN`, R121: `n = D[3:0]` -/
  | plainRamen (n : BitVec 4)
  /-- `PLAIN.NOP1`, R140 -/
  | plainNop1
  /-- `PLAIN.NOP2`, R172 -/
  | plainNop2
  /-- `PLAIN.NOP3`, R192 -/
  | plainNop3
  /-- `MBC1.RAMEN`, R122: `n = D[3:0]` -/
  | mbc1Ramen (n : BitVec 4)
  /-- `MBC1.ROMLO`, R141: `b = D[4:0]` -/
  | mbc1Romlo (b : BitVec 5)
  /-- `MBC1.BANK2`, R170: `u = D[1:0]` -/
  | mbc1Bank2 (u : BitVec 2)
  /-- `MBC1.MODE`, R190: `m = D[0]` -/
  | mbc1Mode (m : BitVec 1)
  /-- `MBC2.RAMEN`, R123: `n = D[3:0]` -/
  | mbc2Ramen (n : BitVec 4)
  /-- `MBC2.NOP0`, R124 -/
  | mbc2Nop0
  /-- `MBC2.ROMB`, R143: `b = D[3:0]` -/
  | mbc2Romb (b : BitVec 4)
  /-- `MBC2.NOP1`, R144 -/
  | mbc2Nop1
  /-- `MBC2.NOP2`, R175 -/
  | mbc2Nop2
  /-- `MBC2.NOP3`, R193 -/
  | mbc2Nop3
  /-- `MBC3.RAMEN`, R125: `n = D[3:0]` -/
  | mbc3Ramen (n : BitVec 4)
  /-- `MBC3.ROMB`, R145: `b = D[6:0]` -/
  | mbc3Romb (b : BitVec 7)
  /-- `MBC3.RAMB`, R173: `u = D[1:0]` and `s = D[7:0]`, the whole byte, which overlaps `u` (R92) -/
  | mbc3Ramb (u : BitVec 2) (s : BitVec 8)
  /-- `MBC3.LATCH`, R191: `l = D[7:0]` -/
  | mbc3Latch (l : BitVec 8)
  /-- `MBC5.RAMEN`, R126: `n = D[3:0]` -/
  | mbc5Ramen (n : BitVec 4)
  /-- `MBC5.ROMLO`, R147: `b = D[7:0]` -/
  | mbc5Romlo (b : BitVec 8)
  /-- `MBC5.ROMHI`, R148: `h = D[0]` -/
  | mbc5Romhi (h : BitVec 1)
  /-- `MBC5.RAMB`, R174: `u = D[3:0]` -/
  | mbc5Ramb (u : BitVec 4)
  /-- `MBC5.NOP3`, R194 -/
  | mbc5Nop3
  /-- `ANY.NOSEL`, R62: a write with `A[15] = 1` -/
  | anyNosel
  deriving DecidableEq, Repr

/-- The strap under which a row of the opcode map reads words (R94, R95); `none` is the row of every strap. -/
def Instr.variant : Instr → Option Variant
  | .plainRamen _ | .plainNop1 | .plainNop2 | .plainNop3 => some .plain
  | .mbc1Ramen _ | .mbc1Romlo _ | .mbc1Bank2 _ | .mbc1Mode _ => some .mbc1
  | .mbc2Ramen _ | .mbc2Nop0 | .mbc2Romb _ | .mbc2Nop1 | .mbc2Nop2 | .mbc2Nop3 => some .mbc2
  | .mbc3Ramen _ | .mbc3Romb _ | .mbc3Ramb _ _ | .mbc3Latch _ => some .mbc3
  | .mbc5Ramen _ | .mbc5Romlo _ | .mbc5Romhi _ | .mbc5Ramb _ | .mbc5Nop3 => some .mbc5
  | .anyNosel => none

/-- The mnemonic of an operation, as the opcode table spells it. -/
def Instr.mnemonic : Instr → String
  | .plainRamen _ => "PLAIN.RAMEN"
  | .plainNop1 => "PLAIN.NOP1"
  | .plainNop2 => "PLAIN.NOP2"
  | .plainNop3 => "PLAIN.NOP3"
  | .mbc1Ramen _ => "MBC1.RAMEN"
  | .mbc1Romlo _ => "MBC1.ROMLO"
  | .mbc1Bank2 _ => "MBC1.BANK2"
  | .mbc1Mode _ => "MBC1.MODE"
  | .mbc2Ramen _ => "MBC2.RAMEN"
  | .mbc2Nop0 => "MBC2.NOP0"
  | .mbc2Romb _ => "MBC2.ROMB"
  | .mbc2Nop1 => "MBC2.NOP1"
  | .mbc2Nop2 => "MBC2.NOP2"
  | .mbc2Nop3 => "MBC2.NOP3"
  | .mbc3Ramen _ => "MBC3.RAMEN"
  | .mbc3Romb _ => "MBC3.ROMB"
  | .mbc3Ramb _ _ => "MBC3.RAMB"
  | .mbc3Latch _ => "MBC3.LATCH"
  | .mbc5Ramen _ => "MBC5.RAMEN"
  | .mbc5Romlo _ => "MBC5.ROMLO"
  | .mbc5Romhi _ => "MBC5.ROMHI"
  | .mbc5Ramb _ => "MBC5.RAMB"
  | .mbc5Nop3 => "MBC5.NOP3"
  | .anyNosel => "ANY.NOSEL"

end Sys2Proof
end

