-- ==== Sys2Proof/WellFormed.lean ====
section
/-! DEFINITION. Which operations are well formed (the two fields of `MBC3.RAMB` read one byte) and which configurations are
(spec/00_scope.md R8). -/

namespace Sys2Proof

/-- Every operand is a field of one data byte (spec/30_encoding.md R92). The widths of the fields are in their types; the one
further condition is that the two fields of `MBC3.RAMB` overlap: `u` is the low two bits of `s`. -/
def Instr.wellFormed : Instr → Bool
  | .mbc3Ramb u s => u == s.extractLsb' 0 2
  | .plainRamen _ | .plainNop1 | .plainNop2 | .plainNop3 => true
  | .mbc1Ramen _ | .mbc1Romlo _ | .mbc1Bank2 _ | .mbc1Mode _ => true
  | .mbc2Ramen _ | .mbc2Nop0 | .mbc2Romb _ | .mbc2Nop1 | .mbc2Nop2 | .mbc2Nop3 => true
  | .mbc3Ramen _ | .mbc3Romb _ | .mbc3Latch _ => true
  | .mbc5Ramen _ | .mbc5Romlo _ | .mbc5Romhi _ | .mbc5Ramb _ | .mbc5Nop3 => true
  | .anyNosel => true

/-- A row reads words under the strap it names, and `ANY.NOSEL` under every strap (R94, R95). -/
def Instr.readUnder (i : Instr) (v : Variant) : Bool :=
  i.variant == none || i.variant == some v

/-- A power of two, as the test on bits that R36 uses (`x mod N = x & (N - 1)`). -/
def isPowerOfTwo (n : Nat) : Bool :=
  n != 0 && 2 ^ Nat.log2 n == n

/-- R8 (a), (b), (c): the configurations a loader produces. -/
def Straps.wellFormed (c : Straps) : Bool :=
  isPowerOfTwo c.romBankCount && decide (2 ≤ c.romBankCount)
    && (c.multi64Quirk
        == (c.ramBankCount == 0 && c.romBankCount == 64 && c.variant == .mbc1 && c.multicartCompat))
    && (!c.hasRtc || c.variant == .mbc3)

end Sys2Proof
end

