-- ==== Sys2Proof/Decode.lean ====
section
/-! DEFINITION. The encoding of a bus write (spec/30_encoding.md R90 to R96): the word `W = A ++ D`, the opcode map as data, the
total decode function, the encoder written from the same map, and the pseudo-operations of R104. No encoding is illegal and none
traps (R99), so decoding refuses nothing. -/

namespace Sys2Proof

/-! ### Fields of the word (R90, R91) -/

/-- `W = A ++ D` (R90). -/
def busWord (a : Addr) (d : Byte) : BusWord := a ++ d

/-- `A = W[23:8]`. -/
def addrOf (w : BusWord) : Addr := w.extractLsb' 8 16

/-- `D = W[7:0]`. -/
def dataOf (w : BusWord) : Byte := w.extractLsb' 0 8

/-- `A[15]`: the write is not decoded when it is set (R91 `sel`, R62). -/
def notSelected (a : Addr) : Bool := a.getLsbD 15

/-- `A[14:12]`, the bucket (R91). -/
def bucketOf (a : Addr) : Nat := (a.extractLsb' 12 3).toNat

/-- `A[8]`, which only MBC2 looks at (R91 `a8`). -/
def bitEight (a : Addr) : Bool := a.getLsbD 8

/-- An operand field at the low end of the data byte: `D[n-1:0]` (R92). -/
def lowField (n : Nat) (d : Byte) : BitVec n := d.extractLsb' 0 n

/-! ### Decode (R96) -/

/-- Buckets 0 and 1: RAM/RTC enable, gated by `A[8]` for MBC2. -/
def decodeRegion0 (v : Variant) (a : Addr) (d : Byte) : Instr :=
  match v with
  | .plain => .plainRamen (lowField 4 d)
  | .mbc1 => .mbc1Ramen (lowField 4 d)
  | .mbc2 => if bitEight a then .mbc2Ramen (lowField 4 d) else .mbc2Nop0
  | .mbc3 => .mbc3Ramen (lowField 4 d)
  | .mbc5 => .mbc5Ramen (lowField 4 d)

/-- Bucket 3, the handler MBC1, MBC2 and MBC3 share with bucket 2 (R97). -/
def decodeBucket3 (v : Variant) (a : Addr) (d : Byte) : Instr :=
  match v with
  | .plain => .plainNop1
  | .mbc1 => .mbc1Romlo (lowField 5 d)
  | .mbc2 => if bitEight a then .mbc2Romb (lowField 4 d) else .mbc2Nop1
  | .mbc3 => .mbc3Romb (lowField 7 d)
  | .mbc5 => .mbc5Romhi (lowField 1 d)

/-- Bucket 2: Plain and MBC5 answer here, the others fall through to bucket 3 (R97). -/
def decodeBucket2 (v : Variant) (a : Addr) (d : Byte) : Instr :=
  match v with
  | .plain => .plainNop1
  | .mbc5 => .mbc5Romlo (lowField 8 d)
  | .mbc1 => decodeBucket3 .mbc1 a d
  | .mbc2 => decodeBucket3 .mbc2 a d
  | .mbc3 => decodeBucket3 .mbc3 a d

/-- Buckets 4 and 5: RAM bank and upper ROM bits. -/
def decodeRegion2 (v : Variant) (d : Byte) : Instr :=
  match v with
  | .plain => .plainNop2
  | .mbc1 => .mbc1Bank2 (lowField 2 d)
  | .mbc2 => .mbc2Nop2
  | .mbc3 => .mbc3Ramb (lowField 2 d) d
  | .mbc5 => .mbc5Ramb (lowField 4 d)

/-- Buckets 6 and 7: mode latch. -/
def decodeRegion3 (v : Variant) (d : Byte) : Instr :=
  match v with
  | .plain => .plainNop3
  | .mbc1 => .mbc1Mode (lowField 1 d)
  | .mbc2 => .mbc2Nop3
  | .mbc3 => .mbc3Latch d
  | .mbc5 => .mbc5Nop3

/-- R96 on the two bus values. -/
def decodeWrite (v : Variant) (a : Addr) (d : Byte) : Instr :=
  if notSelected a then .anyNosel
  else match bucketOf a with
    | 0 | 1 => decodeRegion0 v a d
    | 2 => decodeBucket2 v a d
    | 3 => decodeBucket3 v a d
    | 4 | 5 => decodeRegion2 v d
    | _ => decodeRegion3 v d

/-- The decode function, total on the 2^24 words of every strap (R96, R99). -/
def decode (v : Variant) (w : BusWord) : Instr := decodeWrite v (addrOf w) (dataOf w)

/-! ### The opcode map as data (R94, R95) -/

/-- One row of the opcode map: a word `w` selects it under a strap that `variant` admits when `w & mask = value`; `operand` holds
the bits of the row's fields (R92), and every other bit is don't-care (R100). -/
structure Row where
  mnemonic : String
  variant : Option Variant
  mask : BusWord
  value : BusWord
  operand : BusWord
  deriving DecidableEq, Repr

/-- R95: the row is selected by this word under this strap. -/
def Row.selects (r : Row) (v : Variant) (w : BusWord) : Bool :=
  (r.variant == none || r.variant == some v) && w &&& r.mask == r.value

/-- The bits of a word that the row looks at. -/
def Row.care (r : Row) : BusWord := r.mask ||| r.operand

/-- The rows of spec/opcode_table.json whose mnemonics begin with PLAIN (R94). -/
def plainRows : List Row :=
  [⟨"PLAIN.RAMEN", some .plain, 0xE00000, 0x000000, 0x00000F⟩,
   ⟨"PLAIN.NOP1", some .plain, 0xE00000, 0x200000, 0x000000⟩,
   ⟨"PLAIN.NOP2", some .plain, 0xE00000, 0x400000, 0x000000⟩,
   ⟨"PLAIN.NOP3", some .plain, 0xE00000, 0x600000, 0x000000⟩]

/-- The rows of spec/opcode_table.json whose mnemonics begin with MBC1 (R94). -/
def mbc1Rows : List Row :=
  [⟨"MBC1.RAMEN", some .mbc1, 0xE00000, 0x000000, 0x00000F⟩,
   ⟨"MBC1.ROMLO", some .mbc1, 0xE00000, 0x200000, 0x00001F⟩,
   ⟨"MBC1.BANK2", some .mbc1, 0xE00000, 0x400000, 0x000003⟩,
   ⟨"MBC1.MODE", some .mbc1, 0xE00000, 0x600000, 0x000001⟩]

/-- The rows of spec/opcode_table.json whose mnemonics begin with MBC2 (R94). -/
def mbc2Rows : List Row :=
  [⟨"MBC2.RAMEN", some .mbc2, 0xE10000, 0x010000, 0x00000F⟩,
   ⟨"MBC2.NOP0", some .mbc2, 0xE10000, 0x000000, 0x000000⟩,
   ⟨"MBC2.ROMB", some .mbc2, 0xE10000, 0x210000, 0x00000F⟩,
   ⟨"MBC2.NOP1", some .mbc2, 0xE10000, 0x200000, 0x000000⟩,
   ⟨"MBC2.NOP2", some .mbc2, 0xE00000, 0x400000, 0x000000⟩,
   ⟨"MBC2.NOP3", some .mbc2, 0xE00000, 0x600000, 0x000000⟩]

/-- The rows of spec/opcode_table.json whose mnemonics begin with MBC3 (R94). -/
def mbc3Rows : List Row :=
  [⟨"MBC3.RAMEN", some .mbc3, 0xE00000, 0x000000, 0x00000F⟩,
   ⟨"MBC3.ROMB", some .mbc3, 0xE00000, 0x200000, 0x00007F⟩,
   ⟨"MBC3.RAMB", some .mbc3, 0xE00000, 0x400000, 0x0000FF⟩,
   ⟨"MBC3.LATCH", some .mbc3, 0xE00000, 0x600000, 0x0000FF⟩]

/-- The rows of spec/opcode_table.json whose mnemonics begin with MBC5 (R94). -/
def mbc5Rows : List Row :=
  [⟨"MBC5.RAMEN", some .mbc5, 0xE00000, 0x000000, 0x00000F⟩,
   ⟨"MBC5.ROMLO", some .mbc5, 0xF00000, 0x200000, 0x0000FF⟩,
   ⟨"MBC5.ROMHI", some .mbc5, 0xF00000, 0x300000, 0x000001⟩,
   ⟨"MBC5.RAMB", some .mbc5, 0xE00000, 0x400000, 0x00000F⟩,
   ⟨"MBC5.NOP3", some .mbc5, 0xE00000, 0x600000, 0x000000⟩]

/-- The rows of spec/opcode_table.json whose mnemonics begin with ANY (R94). -/
def anyRows : List Row :=
  [⟨"ANY.NOSEL", none, 0x800000, 0x800000, 0x000000⟩]

/-- The whole map, in the table's order. -/
def opcodeRows : List Row := plainRows ++ mbc1Rows ++ mbc2Rows ++ mbc3Rows ++ mbc5Rows ++ anyRows

/-- The row of an operation. -/
def Instr.row (i : Instr) : Option Row := opcodeRows.find? (fun r => r.mnemonic == i.mnemonic)

/-! ### Encode -/

/-- A word of an operation: the row's fixed bits, its operand fields in place, and 0 in every don't-care bit (log entry 23). -/
def encode : Instr → BusWord
  | .plainRamen n => 0x000000 ||| n.setWidth 24
  | .plainNop1 => 0x200000
  | .plainNop2 => 0x400000
  | .plainNop3 => 0x600000
  | .mbc1Ramen n => 0x000000 ||| n.setWidth 24
  | .mbc1Romlo b => 0x200000 ||| b.setWidth 24
  | .mbc1Bank2 u => 0x400000 ||| u.setWidth 24
  | .mbc1Mode m => 0x600000 ||| m.setWidth 24
  | .mbc2Ramen n => 0x010000 ||| n.setWidth 24
  | .mbc2Nop0 => 0x000000
  | .mbc2Romb b => 0x210000 ||| b.setWidth 24
  | .mbc2Nop1 => 0x200000
  | .mbc2Nop2 => 0x400000
  | .mbc2Nop3 => 0x600000
  | .mbc3Ramen n => 0x000000 ||| n.setWidth 24
  | .mbc3Romb b => 0x200000 ||| b.setWidth 24
  | .mbc3Ramb u s => 0x400000 ||| s.setWidth 24 ||| u.setWidth 24
  | .mbc3Latch l => 0x600000 ||| l.setWidth 24
  | .mbc5Ramen n => 0x000000 ||| n.setWidth 24
  | .mbc5Romlo b => 0x200000 ||| b.setWidth 24
  | .mbc5Romhi h => 0x300000 ||| h.setWidth 24
  | .mbc5Ramb u => 0x400000 ||| u.setWidth 24
  | .mbc5Nop3 => 0x600000
  | .anyNosel => 0x800000

/-! ### The host's view of the decoder -/

/-- The word of an instruction given as `nbits` bits, the bits above them 0 and anything above the 24 bits of `W` dropped. -/
def tableWord (nbits w : Nat) : BusWord := BitVec.ofNat 24 (w % 2 ^ nbits)

/-- What the decoder reads from a word of the opcode table. The table's rows of different variants share their words (R101 (a): the
strap selects the map and is no part of `W`), so the word is read under the strap `State.reset` holds: log entry 4. -/
def decodeTableWord (nbits w : Nat) : Option Instr :=
  some (decode Config.resetStraps.variant (tableWord nbits w))

/-! ### Pseudo-operations (R104) -/

/-- The pseudo-operations of the spec's notation. -/
inductive Pseudo where
  | ramOn
  | ramOff
  | romBank5 (n : BitVec 9)
  | romBank1 (n : BitVec 7)
  | rtcLatch
  | rtcSel (s : Byte)
  deriving DecidableEq, Repr

/-- The writes a pseudo-operation stands for, in order (R104). -/
def Pseudo.expand (v : Variant) : Pseudo → List (Addr × Byte)
  | .ramOn => [(if v = .mbc2 then 0x0100 else 0x0000, 0x0A)]
  | .ramOff => [(if v = .mbc2 then 0x0100 else 0x0000, 0x00)]
  | .romBank5 n => [(0x2000, n.extractLsb' 0 8), (0x3000, (n.extractLsb' 8 1).setWidth 8)]
  | .romBank1 n => [(0x2000, (n.extractLsb' 0 5).setWidth 8), (0x4000, (n.extractLsb' 5 2).setWidth 8)]
  | .rtcLatch => [(0x6000, 0x00), (0x6000, 0x01)]
  | .rtcSel s => [(0x4000, s)]

end Sys2Proof
end

