-- ==== Sys2Proof/Machine/State.lean ====
section
/-! DEFINITION. The state of the decoder and of what stands at its two ports, as plain data: the straps (spec/10_state.md R28),
the four registers (R20 to R23), the three output latches (R30 to R32), the RTC port (R33, R34), the Bank Pointer Table's buffers
(spec/20_memory.md R63, R64), and the host's calls (spec/00_scope.md R9). -/

namespace Sys2Proof.Machine

/-- Why a LOAD fails, exhaustively (spec/60_exceptions.md R231). -/
inductive LoadCause where
  /-- the image is shorter than one ROM bank (R201) -/
  | undersized
  /-- the mapper-type byte has no supported variant (R202) -/
  | unsupportedMapper
  /-- an underlying read failed (R200 step 7) -/
  | readFailure
  deriving DecidableEq, Repr

/-- The faults of the machine (R247: only `LOAD` has one). -/
inductive Fault where
  /-- Raised by the host operation LOAD (`loadCartridge`) alone, for one of its three causes. Safe: the spec says so, and the
  machine's step takes it as the report R231 describes, with the decoder's state unchanged, so no run ends in it (log entry 9). -/
  | loadError (cause : LoadCause)
  deriving DecidableEq, Repr

/-- What the machine gives no move (R247). No bus write is refused once a cartridge is active. -/
inductive Refusal where
  /-- Raised by exec for an instruction that has no meaning yet; every instruction has one, so nothing raises it. Safe. -/
  | notModelled (mnemonic : String)
  /-- Raised by `present` for a WR, a RAM-window write, a CAPTURE or a RESTORE before any successful LOAD, where no decoder
  exists (R48, R263). Safe: the spec gives such an operation no meaning. -/
  | noCartridge
  /-- Raised by `loadCartridge` when the classifier's answers make a configuration that is not well formed (R8, U15): the loader
  never produces one. Safe: the spec refuses it. -/
  | illFormedConfiguration
  deriving DecidableEq, Repr

/-- Output latch `ramVis` (R32). -/
structure RamVis where
  enabled : Bool
  rtcActive : Bool
  bank : Nat
  deriving DecidableEq, Repr

/-- What the contract R34 says of the RTC Model's answer to `getActive()`. -/
inductive RtcSelection where
  /-- a selector in 0 to 3 stands: the answer is false (R34 (c)) -/
  | ramBank
  /-- selector 0x08 stands, chosen and kept with the RTC enabled: the answer is true (R34 (b)) -/
  | rtcRegister
  /-- the answer is the RTC Model's own (R34 (d)) -/
  | modelsOwn
  deriving DecidableEq, Repr

/-- The RTC Model as the decoder may rely on it (R34): not its clock, only what bears on its answer. -/
structure RtcPort where
  /-- the last `setEnabled`, or the enable flag of a later `restore`, was true -/
  enabled : Bool
  /-- what the contract fixes of the answer -/
  selection : RtcSelection
  /-- everything that may have changed the answer, newest first; what an open answer is a free function of -/
  history : List RtcEvent
  deriving DecidableEq, Repr

/-- The tuple CAPTURE writes and RESTORE reads: the four registers, raw, and the RTC Model's own serialized fields (R206, R213). -/
structure SavedState where
  romBankSelect : BitVec 9
  ramBankSelect : BitVec 4
  ramEnabled : Bool
  bankingMode : Bool
  rtc : List Byte
  deriving DecidableEq, Repr

/-- A ROM image: its size, and its bytes that differ from 0xFF by address; every other byte below the size is 0xFF. -/
structure Image where
  size : Nat
  bytes : List Host.Cell
  deriving DecidableEq, Repr

/-- The Header Classifier's five outputs (spec/44_host_operations.md R214), `none` for an unsupported mapper (R202). -/
structure Header where
  variant : Option Variant
  ramBankCount : Nat
  cgb : Bool
  hasBattery : Bool
  hasRtc : Bool
  deriving DecidableEq, Repr

/-- The arguments of LOAD (R200), the classifier's answers for the image (R202, R203: a model takes them as straps), and whether
an underlying read fails (R200 step 7). -/
structure LoadRequest where
  image : Image
  header : Header
  forceMonochrome : Bool
  multicartCompat : Bool
  readFails : Bool
  deriving DecidableEq, Repr

/-- What the host presents (R9), and the CPU's write into the cartridge RAM window, which the Bank Pointer Table serves (R69). -/
inductive Operation where
  | wr (a : Addr) (d : Byte)
  | load (r : LoadRequest)
  | capture
  | restore (saved : SavedState)
  | ramWrite (offset : BitVec 13) (d : Byte)
  deriving DecidableEq, Repr

/-- What the host got back from its last LOAD or CAPTURE (R211). -/
inductive Reply where
  | silent
  | loaded
  | loadFailed (cause : LoadCause)
  | captured (saved : SavedState)
  deriving DecidableEq, Repr

/-- The machine. -/
structure State where
  /-- a LOAD has succeeded, so a decoder exists (R48) -/
  cartridgeActive : Bool
  /-- the straps (R28) -/
  straps : Straps
  /-- register `romBankSelect`, 9 bits (R20) -/
  romBankSelect : BitVec 9
  /-- register `ramBankSelect`, 4 bits (R21) -/
  ramBankSelect : BitVec 4
  /-- register `ramEnabled` (R22) -/
  ramEnabled : Bool
  /-- register `bankingMode`; true is RAM-banking mode (R23) -/
  bankingMode : Bool
  /-- output latch `romBank`, the bank in the high window (R30) -/
  romBank : Nat
  /-- output latch `rom0Window`, the bank in the low window (R31) -/
  rom0Window : Nat
  /-- output latch `ramVis` (R32) -/
  ramVis : RamVis
  /-- the commands issued on the RTC port, oldest first (R11, R33) -/
  rtcIssued : List RtcCommand
  /-- the RTC Model behind the port, as far as R34 lets the decoder rely on it -/
  rtc : RtcPort
  /-- the Bank Pointer Table's number of working-RAM banks (R50, R200 step 4) -/
  workRamBanks : Nat
  /-- the ROM buffer by absolute offset (R63) -/
  rom : List Host.Cell
  /-- the RAM-bank buffer by absolute offset (R64) -/
  ram : List Host.Cell
  /-- the buffers hold what the spec says they hold; false after a late read failure (U18) -/
  buffersIntact : Bool
  /-- the host's last answer (R211) -/
  reply : Reply
  /-- the model's own field: how many CAPTUREs have run, the argument of the free value `Config.rtcSaved` (log entry 8) -/
  captures : Nat
  /-- the model's own field: the operations the host has yet to present, next first (R9, R10, R78; log entry 3) -/
  pending : List Operation
  deriving DecidableEq, Repr

/-- The machine right after reset, that is after a successful LOAD (R260) of a cartridge with the straps `Config.resetStraps`:
the registers of R46, the latches of R47, an image of 0xFF bytes, nothing in RAM and no operation presented yet. -/
def State.reset : State where
  cartridgeActive := true
  straps := Config.resetStraps
  romBankSelect := Config.resetRomBankSelect
  ramBankSelect := Config.resetRamBankSelect
  ramEnabled := false
  bankingMode := false
  romBank := 1
  rom0Window := 0
  ramVis := ⟨false, false, 0⟩
  rtcIssued := []
  rtc := ⟨false, .modelsOwn, [.newCartridge]⟩
  workRamBanks := 2
  rom := []
  ram := []
  buffersIntact := true
  reply := .silent
  captures := 0
  pending := []

/-- The machine before the first LOAD: no cartridge is active (R48). -/
def State.beforeLoad : State := { State.reset with cartridgeActive := false }

end Sys2Proof.Machine
end

