-- ==== Sys2Proof/Machine/Operands.lean ====
section
/-! DEFINITION. The operand assemblies of spec/30_encoding.md R93: where a field of the data byte lands in a register, and which
bits of the register a write keeps. -/

namespace Sys2Proof.Machine

/-- `zext_9(b)`: the register replaced by the field (R141 replace, R143, R145). -/
def replaceSelect {n : Nat} (b : BitVec n) : BitVec 9 := b.setWidth 9

/-- Bits [4:0] replaced, bits [8:5] kept (R141 merge). -/
def mergeLowFive (r : BitVec 9) (b : BitVec 5) : BitVec 9 := (r &&& 0x1E0) ||| b.setWidth 9

/-- Bits [6:5] replaced by `u`, the others kept (R170). -/
def mergeUpperTwo (r : BitVec 9) (u : BitVec 2) : BitVec 9 := (r &&& 0x19F) ||| (u.setWidth 9 <<< 5)

/-- Bits [7:0] replaced, bit [8] kept (R147). -/
def mergeLowEight (r : BitVec 9) (b : BitVec 8) : BitVec 9 := (r &&& 0x100) ||| b.setWidth 9

/-- Bit [8] replaced, bits [7:0] kept (R148). -/
def mergeBitEight (r : BitVec 9) (h : BitVec 1) : BitVec 9 := (h.setWidth 9 <<< 8) ||| (r &&& 0x0FF)

/-- `zext_4(u)` (R170, R173). -/
def zextRamBank (u : BitVec 2) : BitVec 4 := u.setWidth 4

end Sys2Proof.Machine
end

