-- ==== Sys2Proof/Machine/Flags.lean ====
section
/-! DEFINITION. The Boolean values the decoder computes (spec/10_state.md R22, R23, R26, R29, R34): there are no arithmetic flags. -/

namespace Sys2Proof.Machine

/-- `D[3:0] == 0xA`: only the exact nibble enables (R22, R120, R277). -/
def enableValue (n : BitVec 4) : Bool := n == 0xA

/-- `m == 1`: RAM-banking mode (R23, R190). -/
def modeValue (m : BitVec 1) : Bool := m == 1

/-- The strap `multi64Quirk` (R29). -/
def quirkValue (ramBankCount romBankCount : Nat) (v : Variant) (compat : Bool) : Bool :=
  ramBankCount == 0 && romBankCount == 64 && v == .mbc1 && compat

/-- `getActive()`: what the contract R34 fixes, and otherwise the RTC Model's own answer, a free value (log entry 6). -/
def RtcPort.getActive (p : RtcPort) : Bool :=
  match p.selection with
  | .ramBank => false
  | .rtcRegister => true
  | .modelsOwn => Config.rtcAnswer p.history

/-- The RTC-active flag of `ramVis`: false without the chip (R42). -/
def rtcActiveFlag (s : State) : Bool := s.straps.hasRtc && s.rtc.getActive

end Sys2Proof.Machine
end

