-- ==== Sys2Proof/Machine/Banks.lean ====
section
/-! DEFINITION. The bank functions of spec/10_state.md R35 to R38. -/

namespace Sys2Proof.Machine

/-- R35: for MBC1 and MBC5 the index 0 becomes 1; the test is on the whole index (the spec's D3; log entry 19). -/
def zeroRemap (v : Variant) (b : Nat) : Nat :=
  if b = 0 ∧ (v = .mbc1 ∨ v = .mbc5) then 1 else b

/-- R36: remap the raw register value first, then reduce (the spec's D2; log entry 19). -/
def stdBank (v : Variant) (r : BitVec 9) (n : Nat) : Nat := zeroRemap v r.toNat % n

/-- R37: bits [6:5] of the register above its low nibble, 6 bits (the spec's D5; log entry 20). -/
def multi64 (r : BitVec 9) : BitVec 6 := (((r >>> 1) &&& 0x030) ||| (r &&& 0x00F)).setWidth 6

/-- The low-window bank of the multicart path, `multi64(r) & 0x30` (R40; the spec's D6; log entry 20). -/
def multi64Block (r : BitVec 9) : Nat := (multi64 r &&& 0x30).toNat

/-- The high-window bank of the multicart path: remapped, not reduced (R40; the spec's D7; log entry 20). -/
def multi64Bank (r : BitVec 9) : Nat := zeroRemap .mbc1 (multi64 r).toNat

/-- R38: the register modulo the RAM bank count, and 0 where there is no RAM (the spec's D10; log entry 19). -/
def ramIndex (s : BitVec 4) (m : Nat) : Nat := if m = 0 then 0 else s.toNat % m

/-- The condition of the multicart path (R41; the spec's D4; log entry 20). -/
def multicartPath (s : State) : Bool := s.bankingMode && s.straps.multi64Quirk

end Sys2Proof.Machine
end

