-- ==== Sys2Proof/Machine/Memory.lean ====
section
/-! DEFINITION. The two bank spaces of spec/20_memory.md R63 and R64 as lists of cells in one canonical form: addresses strictly
rising, and no cell that holds what an unlisted address reads as. -/

namespace Sys2Proof.Machine

/-- The bank spaces. -/
inductive Space where
  | rom
  | ram
  deriving DecidableEq, Repr

/-- What an unlisted address holds: in the ROM buffer 0xFF (spec/44_host_operations.md R200 step 5); in the RAM buffer no value,
since the spec gives none before a write (log entry 13). -/
def Memory.unlisted : Space → Option Byte
  | .rom => some 0xFF
  | .ram => none

/-- The listed byte of an address. -/
def Memory.lookup : List Host.Cell → Nat → Option Byte
  | [], _ => none
  | c :: m, a => if c.1 = a then some c.2 else Memory.lookup m a

/-- The byte an address holds. -/
def Memory.read (sp : Space) (m : List Host.Cell) (a : Nat) : Option Byte :=
  match Memory.lookup m a with
  | some v => some v
  | none => Memory.unlisted sp

/-- The list without an address. -/
def Memory.erase : List Host.Cell → Nat → List Host.Cell
  | [], _ => []
  | c :: m, a => if c.1 = a then m else c :: Memory.erase m a

/-- The list with an address set, in rising order. -/
def Memory.insert : List Host.Cell → Nat → Byte → List Host.Cell
  | [], a, v => [(a, v)]
  | c :: m, a, v =>
    if a < c.1 then (a, v) :: c :: m
    else if a = c.1 then (a, v) :: m
    else c :: Memory.insert m a v

/-- One byte written; writing what an unlisted address holds removes the cell. -/
def Memory.write (sp : Space) (m : List Host.Cell) (a : Nat) (v : Byte) : List Host.Cell :=
  if Memory.unlisted sp = some v then Memory.erase m a else Memory.insert m a v

/-- The canonical form. -/
abbrev Memory.wf (sp : Space) (m : List Host.Cell) : Prop :=
  m.Pairwise (fun c d => c.1 < d.1) ∧ ∀ c ∈ m, Memory.unlisted sp ≠ some c.2

/-- A buffer filled from an image: the image's bytes below `limit`, everything else 0xFF (R200 step 5). Of two cells with one
address the first counts, as it does in `Memory.lookup`. -/
def Memory.fillRom (bytes : List Host.Cell) (limit : Nat) : List Host.Cell :=
  bytes.foldr (fun c m => if c.1 < limit then Memory.write .rom m c.1 c.2 else m) []

/-- The byte the ROM buffer holds at an absolute offset. -/
def State.romByte (s : State) (a : Nat) : Option Byte := Memory.read .rom s.rom a

/-- The byte the RAM buffer holds at an absolute offset. -/
def State.ramByte (s : State) (a : Nat) : Option Byte := Memory.read .ram s.ram a

end Sys2Proof.Machine
end

