-- ==== Sys2Proof/Machine/Ops.lean ====
section
/-! DEFINITION. The operations every rule is written over (spec/00_scope.md R13): one setter per field of State, the commands on
the two ports, the refresh procedures of spec/10_state.md R39 to R42, `ignore`, the report of a LoadError, and the accesses through
the windows (spec/20_memory.md R67 to R69). -/

namespace Sys2Proof.Machine

/-! ### One setter per field -/

def State.setCartridgeActive (b : Bool) (s : State) : State := { s with cartridgeActive := b }
def State.setStraps (c : Straps) (s : State) : State := { s with straps := c }
def State.setRomBankSelect (r : BitVec 9) (s : State) : State := { s with romBankSelect := r }
def State.setRamBankSelect (r : BitVec 4) (s : State) : State := { s with ramBankSelect := r }
def State.setRamEnabled (b : Bool) (s : State) : State := { s with ramEnabled := b }
def State.setBankingMode (b : Bool) (s : State) : State := { s with bankingMode := b }
/-- `Out.setRomBank(b)` (R30). -/
def State.setRomBank (b : Nat) (s : State) : State := { s with romBank := b }
/-- `Out.setRomBank0(w)` (R31). -/
def State.setRomBank0 (w : Nat) (s : State) : State := { s with rom0Window := w }
/-- `Out.setRamBank(en, rtc, bank)` (R32). -/
def State.setRamBank (v : RamVis) (s : State) : State := { s with ramVis := v }
def State.setRtcIssued (l : List RtcCommand) (s : State) : State := { s with rtcIssued := l }
def State.setRtc (p : RtcPort) (s : State) : State := { s with rtc := p }
def State.setWorkRamBanks (n : Nat) (s : State) : State := { s with workRamBanks := n }
def State.setRom (m : List Host.Cell) (s : State) : State := { s with rom := m }
def State.setRam (m : List Host.Cell) (s : State) : State := { s with ram := m }
def State.setBuffersIntact (b : Bool) (s : State) : State := { s with buffersIntact := b }
def State.setReply (r : Reply) (s : State) : State := { s with reply := r }
def State.setCaptures (n : Nat) (s : State) : State := { s with captures := n }
def State.setPending (l : List Operation) (s : State) : State := { s with pending := l }

/-! ### The RTC port (R33, R34) -/

/-- A repeated command adds nothing to what the open answer depends on (DEDUCED from spec/20_memory.md R77; log entry 6). -/
def noteEvent (e : RtcEvent) (h : List RtcEvent) : List RtcEvent :=
  if h.head? = some e then h else e :: h

/-- `setEnabled`: a standing RAM-bank selector keeps its answer, a standing register selector keeps it while the RTC is enabled
(R34 (b), (c), (d)). -/
def RtcPort.setEnabled (b : Bool) (p : RtcPort) : RtcPort where
  enabled := b
  selection :=
    match p.selection with
    | .ramBank => .ramBank
    | .rtcRegister => if b then .rtcRegister else .modelsOwn
    | .modelsOwn => .modelsOwn
  history := noteEvent (.setEnabled b) p.history

/-- `swapActive`: 0 to 3 select a RAM bank, 0x08 an RTC register if the RTC is enabled, and the rest is the RTC Model's (R34). -/
def RtcPort.swapActive (sel : Byte) (p : RtcPort) : RtcPort where
  enabled := p.enabled
  selection :=
    if sel.toNat < 4 then .ramBank
    else if sel = 0x08 ∧ p.enabled = true then .rtcRegister
    else .modelsOwn
  history := noteEvent (.swapActive sel) p.history

/-- `restore`: the answer is the RTC Model's own afterwards (R34 (d), (e)). -/
def RtcPort.restore (saved : List Byte) (b : Bool) (p : RtcPort) : RtcPort where
  enabled := b
  selection := .modelsOwn
  history := .restore saved b :: p.history

/-- A LOAD: the RTC Model's state is its own (R48). -/
def RtcPort.newCartridge (p : RtcPort) : RtcPort where
  enabled := false
  selection := .modelsOwn
  history := .newCartridge :: p.history

/-- A command is issued: it joins the observable sequence (R11). -/
def issueRtc (c : RtcCommand) (s : State) : State := s.setRtcIssued (s.rtcIssued ++ [c])

/-- `Rtc.setEnabled(b)`. -/
def rtcSetEnabled (b : Bool) (s : State) : State :=
  issueRtc (.setEnabled b) (s.setRtc (s.rtc.setEnabled b))

/-- `Rtc.swapActive(sel)`. -/
def rtcSwapActive (sel : Byte) (s : State) : State :=
  issueRtc (.swapActive sel) (s.setRtc (s.rtc.swapActive sel))

/-- `Rtc.latch(d)`: by R34 (e) it never changes the answer. -/
def rtcLatch (d : Byte) (s : State) : State := issueRtc (.latch d) s

/-- `Rtc.capture(state)`: nothing the decoder relies on changes. -/
def rtcCapture (s : State) : State := issueRtc .capture s

/-- `Rtc.restore(saved, b)`. -/
def rtcRestore (saved : List Byte) (b : Bool) (s : State) : State :=
  issueRtc (.restore saved b) (s.setRtc (s.rtc.restore saved b))

/-! ### The refresh procedures -/

/-- R39. -/
def refreshRomStd (s : State) : State :=
  s.setRomBank (stdBank s.straps.variant s.romBankSelect s.straps.romBankCount)

/-- R40: the low window first (spec/60_exceptions.md R236). -/
def refreshRomMulti (s : State) : State :=
  (s.setRomBank0 (multi64Block s.romBankSelect)).setRomBank (multi64Bank s.romBankSelect)

/-- R41. -/
def refreshRom (s : State) : State :=
  if multicartPath s then refreshRomMulti s
  else if s.straps.multi64Quirk then refreshRomStd (s.setRomBank0 0)
  else refreshRomStd s

/-- R42: the status bit is read here, after every command of the same step (R236). -/
def refreshRam (s : State) : State :=
  s.setRamBank ⟨s.ramEnabled, rtcActiveFlag s, ramIndex s.ramBankSelect s.straps.ramBankCount⟩

/-- `ignore`, the source's DecodeNoop (spec/60_exceptions.md R232): no state changes and no command is issued. -/
def ignoreWrite (s : State) : State := s

/-! ### Taking a LoadError, the one error of the block (spec/60_exceptions.md R231, R238)

The report to the host is the whole entry: no vector, no saved state, no mode change. There is no return from it (R239): the host
may simply present its next operation. -/

/-- The host is told the cause; the straps, registers, latches and the RTC port are as before (R210). After a read failure the
Bank Pointer Table's buffers hold nothing the spec defines (U18; log entry 16). -/
def takeLoadError (cause : LoadCause) (s : State) : State :=
  (s.setReply (.loadFailed cause)).setBuffersIntact (s.buffersIntact && cause != .readFailure)

/-! ### Accesses through the windows (spec/20_memory.md R67 to R70) -/

/-- The answer to a one-byte read by the CPU. -/
inductive BusRead where
  /-- a byte of the ROM or RAM buffer -/
  | byte (v : Byte)
  /-- the active RTC register, which the RTC Model answers for -/
  | rtcRegister
  /-- a value this spec does not define (U5, U18, RAM that nothing has written), or a read before any LOAD, on which the spec is
  silent (log entry 26) -/
  | unspecified
  /-- an address outside the three cartridge windows: not the cartridge's to answer -/
  | elsewhere
  deriving DecidableEq, Repr

/-- The buffers hold what the spec says they hold: a LOAD has succeeded, and no LOAD since failed by a late read failure (U18;
log entry 16). That they hold nothing before any LOAD is the model's choice, since the spec is silent on it (R48; log entry 26). -/
def State.buffersDefined (s : State) : Bool := s.cartridgeActive && s.buffersIntact

/-- What a buffer's byte is to a reader. -/
def State.busByte (s : State) (v : Option Byte) : BusRead :=
  match s.buffersDefined, v with
  | true, some b => .byte b
  | true, none => .unspecified
  | false, _ => .unspecified

/-- A ROM byte, if the offset lies in the buffer (R63). -/
def State.readRom (s : State) (off : Nat) : BusRead :=
  if off < s.straps.romBankCount * Config.romBankSize then s.busByte (s.romByte off) else .unspecified

/-- The absolute RAM offset an access at offset `o` of the RAM window reaches, if it reaches RAM (R69). -/
def State.ramTarget (s : State) (o : Nat) : Option Nat :=
  if s.ramVis.rtcActive then none
  else if s.ramVis.enabled && s.straps.ramBankCount != 0 then some (s.ramVis.bank * Config.ramBankSize + o)
  else none

/-- A read of the RAM window (R69); before any LOAD there is no RTC to answer it (log entry 26). -/
def State.readRamWindow (s : State) (o : Nat) : BusRead :=
  if s.cartridgeActive && s.ramVis.rtcActive then .rtcRegister
  else match s.ramTarget o with
    | some off => s.busByte (s.ramByte off)
    | none => .unspecified

/-- `MemRead(A, 1)`: it changes nothing (R67, R68, R69, R76). DESIGN CHOICE, log entry 26: before any successful LOAD, where no
decoder exists and the spec is silent on reads (R48, R263), every read of a cartridge window is unspecified. -/
def State.memRead (s : State) (a : Addr) : BusRead :=
  if a.toNat < 0x4000 then s.readRom (s.rom0Window * Config.romBankSize + a.toNat % 0x4000)
  else if a.toNat < 0x8000 then s.readRom (s.romBank * Config.romBankSize + a.toNat % 0x4000)
  else if Config.ramWindowBase ≤ a.toNat ∧ a.toNat < Config.ramWindowBase + Config.ramBankSize then
    s.readRamWindow (a.toNat - Config.ramWindowBase)
  else .elsewhere

/-- A CPU write at offset `o` of the RAM window: it reaches RAM, or the RTC Model, or nothing (R69). An RTC register is no state of
this machine, and by R34 (e) writing one does not change what the decoder sees (log entry 21). -/
def ramWindowWrite (o : BitVec 13) (d : Byte) (s : State) : State :=
  match s.ramTarget o.toNat with
  | some off => s.setRam (Memory.write .ram s.ram off d)
  | none => s

end Sys2Proof.Machine
end

