-- ==== Sys2Proof/Machine/ModeLatch.lean ====
section
/-! DEFINITION. Region 3 writes, banking mode and RTC latch (spec/43_mode_latch.md R190 to R194), and the row of every strap for a
write that is not selected (spec/20_memory.md R62). -/

namespace Sys2Proof.Machine

/-- `MBC1.MODE` (R190): the refresh sees the new mode, and only a multicart cartridge is refreshed. -/
def execMbc1Mode (m : BitVec 1) (s : State) : Host.Outcome State Fault Refusal :=
  let s1 := s.setBankingMode (modeValue m)
  .next (if s1.straps.multi64Quirk then refreshRom s1 else s1)

/-- `MBC3.LATCH` (R191): forwarded on every MBC3 cartridge (the spec's D12; log entry 19). -/
def execMbc3Latch (l : BitVec 8) (s : State) : Host.Outcome State Fault Refusal := .next (rtcLatch l s)

/-- `PLAIN.NOP3` (R192). -/
def execPlainNop3 (s : State) : Host.Outcome State Fault Refusal := .next (ignoreWrite s)

/-- `MBC2.NOP3` (R193). -/
def execMbc2Nop3 (s : State) : Host.Outcome State Fault Refusal := .next (ignoreWrite s)

/-- `MBC5.NOP3` (R194). -/
def execMbc5Nop3 (s : State) : Host.Outcome State Fault Refusal := .next (ignoreWrite s)

/-- `ANY.NOSEL` (R62; the spec's D9; log entry 19). -/
def execAnyNosel (s : State) : Host.Outcome State Fault Refusal := .next (ignoreWrite s)

end Sys2Proof.Machine
end

