-- ==== Sys2Proof/Machine/RamBank.lean ====
section
/-! DEFINITION. Region 2 writes, RAM bank and upper ROM bits (spec/42_ram_bank_upper_bits.md R170 to R175). -/

namespace Sys2Proof.Machine

/-- `MBC1.BANK2` (R170), its three sub-cases. -/
def execMbc1Bank2 (u : BitVec 2) (s : State) : Host.Outcome State Fault Refusal :=
  .next
    (if s.bankingMode then
      if !s.straps.multi64Quirk then refreshRam (s.setRamBankSelect (zextRamBank u))
      else refreshRomMulti (s.setRomBankSelect (mergeUpperTwo s.romBankSelect u))
    else refreshRom (s.setRomBankSelect (mergeUpperTwo s.romBankSelect u)))

/-- `PLAIN.NOP2` (R172; the spec's D14). -/
def execPlainNop2 (s : State) : Host.Outcome State Fault Refusal := .next (ignoreWrite s)

/-- `MBC2.NOP2` (R175; the spec's D14). -/
def execMbc2Nop2 (s : State) : Host.Outcome State Fault Refusal := .next (ignoreWrite s)

/-- `MBC3.RAMB` (R173): `u` to the register, the raw byte to the RTC where there is the chip, then the refresh. -/
def execMbc3Ramb (u : BitVec 2) (sel : BitVec 8) (s : State) : Host.Outcome State Fault Refusal :=
  let s1 := s.setRamBankSelect (zextRamBank u)
  let s2 := if s1.straps.hasRtc then rtcSwapActive sel s1 else s1
  .next (refreshRam s2)

/-- `MBC5.RAMB` (R174). -/
def execMbc5Ramb (u : BitVec 4) (s : State) : Host.Outcome State Fault Refusal :=
  .next (refreshRam (s.setRamBankSelect u))

end Sys2Proof.Machine
end

