-- ==== Sys2Proof/Machine/RamEnable.lean ====
section
/-! DEFINITION. Region 0 writes, RAM/RTC enable (spec/40_ram_enable.md R120 to R126). -/

namespace Sys2Proof.Machine

/-- `RamEnableWrite(D)` (R120): the register, then the RTC's enable where there is the chip, then the refresh. -/
def ramEnableWrite (n : BitVec 4) (s : State) : State :=
  let s1 := s.setRamEnabled (enableValue n)
  let s2 := if s1.straps.hasRtc then rtcSetEnabled s1.ramEnabled s1 else s1
  refreshRam s2

/-- `PLAIN.RAMEN` (R121). -/
def execPlainRamen (n : BitVec 4) (s : State) : Host.Outcome State Fault Refusal := .next (ramEnableWrite n s)

/-- `MBC1.RAMEN` (R122): independent of `bankingMode` and `multi64Quirk`. -/
def execMbc1Ramen (n : BitVec 4) (s : State) : Host.Outcome State Fault Refusal := .next (ramEnableWrite n s)

/-- `MBC2.RAMEN` (R123); the gate on `A[8]` is in the decode. -/
def execMbc2Ramen (n : BitVec 4) (s : State) : Host.Outcome State Fault Refusal := .next (ramEnableWrite n s)

/-- `MBC2.NOP0` (R124). -/
def execMbc2Nop0 (s : State) : Host.Outcome State Fault Refusal := .next (ignoreWrite s)

/-- `MBC3.RAMEN` (R125). -/
def execMbc3Ramen (n : BitVec 4) (s : State) : Host.Outcome State Fault Refusal := .next (ramEnableWrite n s)

/-- `MBC5.RAMEN` (R126). -/
def execMbc5Ramen (n : BitVec 4) (s : State) : Host.Outcome State Fault Refusal := .next (ramEnableWrite n s)

end Sys2Proof.Machine
end

