-- ==== Sys2Proof/Machine/RomBank.lean ====
section
/-! DEFINITION. Region 1 writes, ROM bank select (spec/41_rom_bank_select.md R140 to R148). -/

namespace Sys2Proof.Machine

/-- `PLAIN.NOP1` (R140). -/
def execPlainNop1 (s : State) : Host.Outcome State Fault Refusal := .next (ignoreWrite s)

/-- `MBC1.ROMLO` (R141): replace in RAM-banking mode without the quirk, merge otherwise. -/
def execMbc1Romlo (b : BitVec 5) (s : State) : Host.Outcome State Fault Refusal :=
  .next (refreshRom (s.setRomBankSelect
    (if s.bankingMode && !s.straps.multi64Quirk then replaceSelect b else mergeLowFive s.romBankSelect b)))

/-- `MBC2.ROMB` (R143); the gate on `A[8]` is in the decode. -/
def execMbc2Romb (b : BitVec 4) (s : State) : Host.Outcome State Fault Refusal :=
  .next (refreshRomStd (s.setRomBankSelect (replaceSelect b)))

/-- `MBC2.NOP1` (R144). -/
def execMbc2Nop1 (s : State) : Host.Outcome State Fault Refusal := .next (ignoreWrite s)

/-- `MBC3.ROMB` (R145). -/
def execMbc3Romb (b : BitVec 7) (s : State) : Host.Outcome State Fault Refusal :=
  .next (refreshRomStd (s.setRomBankSelect (replaceSelect b)))

/-- `MBC5.ROMLO` (R147). -/
def execMbc5Romlo (b : BitVec 8) (s : State) : Host.Outcome State Fault Refusal :=
  .next (refreshRomStd (s.setRomBankSelect (mergeLowEight s.romBankSelect b)))

/-- `MBC5.ROMHI` (R148). -/
def execMbc5Romhi (h : BitVec 1) (s : State) : Host.Outcome State Fault Refusal :=
  .next (refreshRomStd (s.setRomBankSelect (mergeBitEight s.romBankSelect h)))

end Sys2Proof.Machine
end

