-- ==== Sys2Proof/Machine/Dispatch.lean ====
section
/-! DEFINITION. One arm per operation of the opcode map (spec/30_encoding.md R94). -/

namespace Sys2Proof.Machine

def exec (i : Instr) (s : State) : Host.Outcome State Fault Refusal :=
  match i with
  | .plainRamen n => Sys2Proof.Machine.execPlainRamen n s
  | .plainNop1 => Sys2Proof.Machine.execPlainNop1 s
  | .plainNop2 => Sys2Proof.Machine.execPlainNop2 s
  | .plainNop3 => Sys2Proof.Machine.execPlainNop3 s
  | .mbc1Ramen n => Sys2Proof.Machine.execMbc1Ramen n s
  | .mbc1Romlo b => Sys2Proof.Machine.execMbc1Romlo b s
  | .mbc1Bank2 u => Sys2Proof.Machine.execMbc1Bank2 u s
  | .mbc1Mode m => Sys2Proof.Machine.execMbc1Mode m s
  | .mbc2Ramen n => Sys2Proof.Machine.execMbc2Ramen n s
  | .mbc2Nop0 => Sys2Proof.Machine.execMbc2Nop0 s
  | .mbc2Romb b => Sys2Proof.Machine.execMbc2Romb b s
  | .mbc2Nop1 => Sys2Proof.Machine.execMbc2Nop1 s
  | .mbc2Nop2 => Sys2Proof.Machine.execMbc2Nop2 s
  | .mbc2Nop3 => Sys2Proof.Machine.execMbc2Nop3 s
  | .mbc3Ramen n => Sys2Proof.Machine.execMbc3Ramen n s
  | .mbc3Romb b => Sys2Proof.Machine.execMbc3Romb b s
  | .mbc3Ramb u sel => Sys2Proof.Machine.execMbc3Ramb u sel s
  | .mbc3Latch l => Sys2Proof.Machine.execMbc3Latch l s
  | .mbc5Ramen n => Sys2Proof.Machine.execMbc5Ramen n s
  | .mbc5Romlo b => Sys2Proof.Machine.execMbc5Romlo b s
  | .mbc5Romhi h => Sys2Proof.Machine.execMbc5Romhi h s
  | .mbc5Ramb u => Sys2Proof.Machine.execMbc5Ramb u s
  | .mbc5Nop3 => Sys2Proof.Machine.execMbc5Nop3 s
  | .anyNosel => Sys2Proof.Machine.execAnyNosel s

end Sys2Proof.Machine
end

