-- ==== Sys2Proof/Machine/HostOps.lean ====
section
/-! DEFINITION. The host operations LOAD, CAPTURE and RESTORE (spec/44_host_operations.md R200 to R210), with the straps a LOAD
computes, and the Header Classifier as far as the source gives it (R202, R203, R214). -/

namespace Sys2Proof.Machine

/-! ### The straps a LOAD computes -/

/-- The least of `p`, `2p`, `4p`, … that is at least `n`, looking at most `fuel` doublings ahead. -/
def doubleUpTo : Nat → Nat → Nat → Nat
  | 0, p, _ => p
  | fuel + 1, p, n => if n ≤ p then p else doubleUpTo fuel (2 * p) n

/-- `pow2ceil(n)`, the least power of two `>= n` (R204). -/
def pow2ceil (n : Nat) : Nat := doubleUpTo n 1 n

/-- The number of whole 0x4000-byte banks in an image (the spec's D19). -/
def wholeBanks (size : Nat) : Nat := size / Config.romBankSize

/-- R204. -/
def romBankCountOf (size : Nat) : Nat := max 2 (pow2ceil (wholeBanks size))

/-- R202 to R205: the straps from the classifier's answers, the image's size and the caller's flag. -/
def strapsOf (v : Variant) (r : LoadRequest) : Straps where
  variant := v
  romBankCount := romBankCountOf r.image.size
  ramBankCount := r.header.ramBankCount
  hasRtc := r.header.hasRtc
  hasBattery := r.header.hasBattery
  multicartCompat := r.multicartCompat
  multi64Quirk := quirkValue r.header.ramBankCount (romBankCountOf r.image.size) v r.multicartCompat

/-- Working-RAM banks: 8 for a CGB-capable cartridge that is not forced to monochrome, else 2 (R200 step 4, R203; log entry 18). -/
def workRamBanksOf (r : LoadRequest) : Nat := if r.header.cgb && !r.forceMonochrome then 8 else 2

/-! ### LOAD -/

/-- Reset of the decoder (R209): the registers of R46, then the latches. -/
def resetDecoder (s : State) : State :=
  let s1 := (((s.setRomBankSelect Config.resetRomBankSelect).setRamBankSelect Config.resetRamBankSelect).setRamEnabled
    false).setBankingMode false
  refreshRam (refreshRomStd (s1.setRomBank0 0))

/-- The straps and the Bank Pointer Table's buffers of the new cartridge (R200 steps 3 to 6): whole banks of the image, 0xFF above
them (log entry 15), RAM allocated and nothing in it, and an RTC Model in a state of its own (R48). -/
def installCartridge (c : Straps) (r : LoadRequest) (s : State) : State :=
  ((((((s.setStraps c).setWorkRamBanks (workRamBanksOf r)).setRom
    (Memory.fillRom r.image.bytes (wholeBanks r.image.size * Config.romBankSize))).setRam []).setBuffersIntact true).setRtc
    s.rtc.newCartridge).setCartridgeActive true

/-- LOAD as one call: it fails for the first cause of R237 that applies, or installs the cartridge and resets the decoder. -/
def loadCartridge (r : LoadRequest) (s : State) : Host.Outcome State Fault Refusal :=
  if r.image.size < Config.romBankSize then .fault (.loadError .undersized)
  else match r.header.variant with
    | none => .fault (.loadError .unsupportedMapper)
    | some v =>
      if r.readFails then .fault (.loadError .readFailure)
      else if (strapsOf v r).wellFormed then
        .next ((resetDecoder (installCartridge (strapsOf v r) r s)).setReply .loaded)
      else .refused .illFormedConfiguration

/-- LOAD under its host: a LoadError is taken, that is reported, and the machine goes on (R231, R239; log entry 9). -/
def loadStep (r : LoadRequest) (s : State) : Host.Outcome State Fault Refusal :=
  match loadCartridge r s with
  | .next t => .next t
  | .fault (.loadError cause) => .next (takeLoadError cause s)
  | .refused e => .refused e

/-! ### CAPTURE and RESTORE -/

/-- The tuple CAPTURE writes (R206): raw registers, no straps, no latches, and the RTC Model's own fields. -/
def savedStateOf (s : State) : SavedState where
  romBankSelect := s.romBankSelect
  ramBankSelect := s.ramBankSelect
  ramEnabled := s.ramEnabled
  bankingMode := s.bankingMode
  rtc := Config.rtcSaved s.captures

/-- CAPTURE (R206): the decoder is unchanged; the host gets the tuple. -/
def captureStep (s : State) : State :=
  ((rtcCapture s).setReply (.captured (savedStateOf s))).setCaptures (s.captures + 1)

/-- RESTORE (R207): the four registers, the RTC Model's restore, then RAM visibility, then the ROM mapping. -/
def restoreStep (saved : SavedState) (s : State) : State :=
  let s1 := (((s.setRomBankSelect saved.romBankSelect).setRamBankSelect saved.ramBankSelect).setRamEnabled
    saved.ramEnabled).setBankingMode saved.bankingMode
  refreshRom (refreshRam (rtcRestore saved.rtc (s1.straps.hasRtc && saved.ramEnabled) s1))

/-! ### The Header Classifier, as far as the source gives it (R202, R203, R214; log entry 17) -/

/-- A byte of an image; 0xFF where the image lists none. -/
def Image.byteAt (img : Image) (a : Nat) : Byte := (Memory.lookup img.bytes a).getD 0xFF

/-- The first 0x150 bytes, all the classifier reads (R214). -/
def Image.header (img : Image) : List Byte := (List.range 0x150).map img.byteAt

/-- The classifier's answers for an image. The mapper-type byte is at 0x147; the table's two known entries are 0x01, MBC1 with no RAM,
and 0x10, MBC3 with RTC (R202); an undocumented RAM size is the largest defined one, 16 banks (R203). The rest is open. -/
def classifyHeader (img : Image) : Header :=
  let mapper := img.byteAt 0x147
  let v := if mapper = 0x01 then some .mbc1 else if mapper = 0x10 then some .mbc3 else Config.mapperVariant mapper
  { variant := v
    ramBankCount := if mapper = 0x01 then 0 else (Config.headerRamBanks img.header).getD 16
    cgb := Config.headerCgb img.header
    hasBattery := Config.mapperHasBattery mapper
    hasRtc := if mapper = 0x10 then true else decide (v = some .mbc3) && Config.mapperHasRtc mapper }

/-- `LOAD(image, forceMonochrome, multicartCompat)` as the source's call (R200): the classifier's answers are the image's own. -/
def loadCall (img : Image) (forceMonochrome multicartCompat readFails : Bool) : Operation :=
  .load ⟨img, classifyHeader img, forceMonochrome, multicartCompat, readFails⟩

/-! ### Blob accessors (R212): what they expose; calling one reads no decoder register and changes nothing (log entry 27) -/

/-- `savedataSize()`: the RAM-bank buffer's size in bytes; `none` where the spec does not say what the buffer is, that is before any
LOAD and after a late read failure (U18). -/
def savedataSize (s : State) : Option Nat :=
  if s.buffersDefined then some (s.straps.ramBankCount * Config.ramBankSize) else none

/-- `savedataPointer()`: the raw RAM-bank buffer, byte by byte; a byte that nothing has written has no value (log entry 13). -/
def savedata (s : State) : Option (List (Option Byte)) :=
  (savedataSize s).map (fun n => (List.range n).map s.ramByte)

/-- `rtcdataPointer()`: the RTC Model's base time, a free value. `call` numbers the calls, so two calls need not agree. -/
def rtcdata (call : Nat) (s : State) : List Byte := Config.rtcBlob s.rtcIssued call

/-- `rtcdataSize()`: the size in bytes of what the same call of `rtcdataPointer()` exposes. -/
def rtcdataSize (call : Nat) (s : State) : Nat := (rtcdata call s).length

end Sys2Proof.Machine
end

