-- ==== Sys2Proof/Machine/Present.lean ====
section
/-! DEFINITION. One operation presented by the host (spec/00_scope.md R9): a bus write is decoded under the strap and executed; a
host call runs; and before any successful LOAD only LOAD has a meaning (spec/10_state.md R48, spec/70_reset_and_hazards.md R263). -/

namespace Sys2Proof.Machine

/-- An operation that needs a decoder to exist. -/
def whenActive (s : State) (o : Host.Outcome State Fault Refusal) : Host.Outcome State Fault Refusal :=
  if s.cartridgeActive then o else .refused .noCartridge

/-- What one operation does. -/
def present (op : Operation) (s : State) : Host.Outcome State Fault Refusal :=
  match op with
  | .wr a d => whenActive s (exec (decode s.straps.variant (busWord a d)) s)
  | .load r => loadStep r s
  | .capture => whenActive s (.next (captureStep s))
  | .restore saved => whenActive s (.next (restoreStep saved s))
  | .ramWrite o d => whenActive s (.next (ramWindowWrite o d s))

/-- One step: the next operation the host presents; with none presented the decoder does not act (R9; log entry 3). -/
def stepPending (s : State) : Host.Outcome State Fault Refusal :=
  match s.pending with
  | [] => .next s
  | op :: rest => present op (s.setPending rest)

/-- A word placed as the next write the host presents, on an active cartridge (log entry 5). -/
def placeWord (w : BusWord) (s : State) : State :=
  (s.setPending (.wr (addrOf w) (dataOf w) :: s.pending)).setCartridgeActive true

end Sys2Proof.Machine
end

