-- ==== Sys2Proof/Machine/Step.lean ====
section
/-! DEFINITION. The step of the machine: one operation the host presents runs to completion (spec/00_scope.md R3, R9, R10). -/

namespace Sys2Proof.Machine

def step (s : State) : Host.Outcome State Fault Refusal := Sys2Proof.Machine.stepPending s

/-- The state whose next step presents exactly this write (log entry 5). -/
def State.withFetchWord (s : State) (nbits w : Nat) : State :=
  Sys2Proof.Machine.placeWord (Sys2Proof.tableWord nbits w) s

end Sys2Proof.Machine
end

