-- ==== Sys2Proof/Safety.lean ====
section
/-! DEFINITION. The terms claims are made in: the view the latches must show (spec/10_state.md R43), the invariant of the machine,
the values bus writes can reach (R25), the operations that are ignored (spec/60_exceptions.md R232), what no bus write touches, and
the rules' arithmetic on plain numbers. -/

namespace Sys2Proof.Machine

/-! ### Arithmetic on plain numbers, for statements -/

/-- The bank of the standard path (R36): `r` remapped where the variant remaps, then reduced. -/
def standardBank (v : Variant) (r n : Nat) : Nat :=
  match v with
  | .mbc1 | .mbc5 => (if r = 0 then 1 else r) % n
  | .plain | .mbc2 | .mbc3 => r % n

/-- The index of the multicart path (R37): bits 5 and 6 of `r` become the block, the low nibble stays. -/
def multicartIndex (r : Nat) : Nat := 16 * (r / 32 % 4) + r % 16

/-- The bank of the multicart path (R40). -/
def multicartBank (r : Nat) : Nat := if multicartIndex r = 0 then 1 else multicartIndex r

/-- The visible RAM bank index (R38). -/
def visibleRamBank (r m : Nat) : Nat := if m = 0 then 0 else r % m

/-- The address bit MBC2 is gated by, as a number: `A[8] = 1`. -/
abbrev gateOpen (a : Addr) : Prop := a.toNat / 256 % 2 = 1

/-! ### The view (R43) -/

/-- What `romBank` must be. -/
def State.viewRomBank (s : State) : Nat :=
  if s.bankingMode = true ∧ s.straps.multi64Quirk = true then multicartBank s.romBankSelect.toNat
  else standardBank s.straps.variant s.romBankSelect.toNat s.straps.romBankCount

/-- What `rom0Window` must be. -/
def State.viewRom0Window (s : State) : Nat :=
  if s.bankingMode = true ∧ s.straps.multi64Quirk = true then 16 * (s.romBankSelect.toNat / 32 % 4) else 0

/-- What `ramVis` must be. -/
def State.viewRamVis (s : State) : RamVis :=
  ⟨s.ramEnabled, s.straps.hasRtc && s.rtc.getActive, visibleRamBank s.ramBankSelect.toNat s.straps.ramBankCount⟩

/-- The latches are the view of the registers, the straps and the RTC status (R43). -/
abbrev State.ShowsView (s : State) : Prop :=
  s.romBank = s.viewRomBank ∧ s.rom0Window = s.viewRom0Window ∧ s.ramVis = s.viewRamVis

/-- The invariant of the machine: a well-formed configuration (R8), latches that show the view (R43), and both buffers in canonical
form. -/
abbrev State.Inv (s : State) : Prop :=
  s.straps.wellFormed = true ∧ s.ShowsView ∧ Memory.wf .rom s.rom ∧ Memory.wf .ram s.ram

/-! ### The values bus writes can reach (R25) -/

/-- R25, one case per variant. -/
def State.inWriteReach (s : State) : Prop :=
  match s.straps.variant with
  | .plain => s.romBankSelect.toNat = 1 ∧ s.ramBankSelect.toNat = 0 ∧ s.bankingMode = false
  | .mbc1 => s.romBankSelect.toNat ≤ 0x7F ∧ s.ramBankSelect.toNat ≤ 3
  | .mbc2 => s.romBankSelect.toNat ≤ 0x0F ∧ s.ramBankSelect.toNat = 0 ∧ s.bankingMode = false
  | .mbc3 => s.romBankSelect.toNat ≤ 0x7F ∧ s.ramBankSelect.toNat ≤ 3 ∧ s.bankingMode = false
  | .mbc5 => s.bankingMode = false

/-! ### Frames -/

/-- The RTC port as before: no command, and nothing the answer depends on. -/
def SameRtc (s t : State) : Prop := t.rtcIssued = s.rtcIssued ∧ t.rtc = s.rtc

/-- The ROM mapping as before: its register and its two latches. -/
def SameRomMapping (s t : State) : Prop :=
  t.romBankSelect = s.romBankSelect ∧ t.romBank = s.romBank ∧ t.rom0Window = s.rom0Window

/-- What no bus write touches: the straps, the host's side, and every byte of both buffers. -/
def SameSurroundings (s t : State) : Prop :=
  t.cartridgeActive = s.cartridgeActive ∧ t.straps = s.straps ∧ t.workRamBanks = s.workRamBanks
    ∧ t.buffersIntact = s.buffersIntact ∧ t.reply = s.reply ∧ t.captures = s.captures ∧ t.pending = s.pending
    ∧ (∀ a, t.romByte a = s.romByte a) ∧ (∀ a, t.ramByte a = s.ramByte a)

/-! ### Operations by kind -/

/-- The eight `*.NOP*` rows and `ANY.NOSEL` (R99, R232). -/
def ignoredRows : List Instr :=
  [.plainNop1, .plainNop2, .plainNop3, .mbc2Nop0, .mbc2Nop1, .mbc2Nop2, .mbc2Nop3, .mbc5Nop3, .anyNosel]

/-- The five `*.RAMEN` rows. -/
def ramEnableRows (n : BitVec 4) : List Instr :=
  [.plainRamen n, .mbc1Ramen n, .mbc2Ramen n, .mbc3Ramen n, .mbc5Ramen n]

/-- The addresses a strap ignores (R94, R96, R99). -/
def ignoredAt (v : Variant) (a : Addr) : Prop :=
  0x8000 ≤ a.toNat ∨
    match v with
    | .plain => 0x2000 ≤ a.toNat
    | .mbc1 => False
    | .mbc2 => 0x4000 ≤ a.toNat ∨ ¬ gateOpen a
    | .mbc3 => False
    | .mbc5 => 0x6000 ≤ a.toNat

/-- The operation is a LOAD. -/
def Operation.isLoad : Operation → Bool
  | .load _ => true
  | .wr _ _ | .capture | .restore _ | .ramWrite _ _ => false

/-- The operation is a RESTORE. -/
def Operation.isRestore : Operation → Bool
  | .restore _ => true
  | .wr _ _ | .capture | .load _ | .ramWrite _ _ => false

end Sys2Proof.Machine
end

