-- ==== Sys2Proof/Certificates/Slice0/Obligations.lean ====
section
/-! DEFINITION. The statements for the provers. Each docstring names the rule of spec/ it formalises, or says that it rests on a
decision of the spec or of the model. -/

open Sys2Proof Sys2Proof.Machine

/-! ### Encoding and decode (spec/30_encoding.md) -/

/-- R94, R96: for every well-formed operation and every strap its row is read under, decoding its word gives it back. -/
def Obligations.DecodeUndoesEncode : Prop :=
  ∀ (v : Variant) (i : Instr), i.wellFormed = true → i.readUnder v = true → decode v (encode i) = i

/-- R94, R95, R100: encoding what was decoded gives back every bit the row looks at, opcode bits and operand bits. -/
def Obligations.EncodeKeepsEveryBitTheRowReads : Prop :=
  ∀ (v : Variant) (w : BusWord), ∃ r, (decode v w).row = some r ∧ encode (decode v w) &&& r.care = w &&& r.care

/-- R96, the decode function, in terms of address ranges and of the data byte as a number. -/
def Obligations.DecodeFollowsTheAddressMap : Prop :=
  ∀ (v : Variant) (a : Addr) (d : Byte),
    (0x8000 ≤ a.toNat → decode v (busWord a d) = .anyNosel)
    ∧ (a.toNat < 0x2000 → decode v (busWord a d) =
        match v with
        | .plain => .plainRamen (BitVec.ofNat 4 d.toNat)
        | .mbc1 => .mbc1Ramen (BitVec.ofNat 4 d.toNat)
        | .mbc2 => if gateOpen a then .mbc2Ramen (BitVec.ofNat 4 d.toNat) else .mbc2Nop0
        | .mbc3 => .mbc3Ramen (BitVec.ofNat 4 d.toNat)
        | .mbc5 => .mbc5Ramen (BitVec.ofNat 4 d.toNat))
    ∧ (0x2000 ≤ a.toNat → a.toNat < 0x4000 → decode v (busWord a d) =
        match v with
        | .plain => .plainNop1
        | .mbc1 => .mbc1Romlo (BitVec.ofNat 5 d.toNat)
        | .mbc2 => if gateOpen a then .mbc2Romb (BitVec.ofNat 4 d.toNat) else .mbc2Nop1
        | .mbc3 => .mbc3Romb (BitVec.ofNat 7 d.toNat)
        | .mbc5 => if a.toNat < 0x3000 then .mbc5Romlo d else .mbc5Romhi (BitVec.ofNat 1 d.toNat))
    ∧ (0x4000 ≤ a.toNat → a.toNat < 0x6000 → decode v (busWord a d) =
        match v with
        | .plain => .plainNop2
        | .mbc1 => .mbc1Bank2 (BitVec.ofNat 2 d.toNat)
        | .mbc2 => .mbc2Nop2
        | .mbc3 => .mbc3Ramb (BitVec.ofNat 2 d.toNat) d
        | .mbc5 => .mbc5Ramb (BitVec.ofNat 4 d.toNat))
    ∧ (0x6000 ≤ a.toNat → a.toNat < 0x8000 → decode v (busWord a d) =
        match v with
        | .plain => .plainNop3
        | .mbc1 => .mbc1Mode (BitVec.ofNat 1 d.toNat)
        | .mbc2 => .mbc2Nop3
        | .mbc3 => .mbc3Latch d
        | .mbc5 => .mbc5Nop3)

/-- R106 (the spec derives it from R96): for each variant the rows of that variant and `ANY.NOSEL` partition the 2^24 words, and
the decoder answers the one row selected. -/
def Obligations.ExactlyOneRowIsSelected : Prop :=
  ∀ (v : Variant) (w : BusWord),
    (opcodeRows.filter (fun r => r.selects v w)).map Row.mnemonic = [(decode v w).mnemonic]

/-- R100 (derived in the spec): two words that agree on the bits the first one's row looks at decode to the same operation. -/
def Obligations.DontCareBitsHaveNoEffect : Prop :=
  ∀ (v : Variant) (w w' : BusWord) (r : Row),
    (decode v w).row = some r → w &&& r.care = w' &&& r.care → decode v w' = decode v w

/-- R97: for MBC1, MBC2 and MBC3 buckets 2 and 3 are one window; for MBC5 they are two operations; Plain ignores both. -/
def Obligations.RomSelectBucketsShareOneHandler : Prop :=
  ∀ (a : Addr) (d : Byte), 0x2000 ≤ a.toNat → a.toNat < 0x3000 →
    (∀ v : Variant, v = .mbc1 ∨ v = .mbc2 ∨ v = .mbc3 →
      decode v (busWord (a + 0x1000) d) = decode v (busWord a d))
    ∧ decode .mbc5 (busWord a d) = .mbc5Romlo d
    ∧ decode .mbc5 (busWord (a + 0x1000) d) = .mbc5Romhi (BitVec.ofNat 1 d.toNat)
    ∧ decode .plain (busWord a d) = .plainNop1
    ∧ decode .plain (busWord (a + 0x1000) d) = .plainNop1

/-- A sanity statement: a few words of spec/95_test_vectors.md, one or two a family, decode to the rows listed there. -/
def Obligations.SampleWordsDecode : Prop :=
  decode .mbc2 0x01000A = .mbc2Ramen 0xA ∧ decode .mbc2 0x00000A = .mbc2Nop0
    ∧ decode .mbc1 0x3FFFE3 = .mbc1Romlo 0x03 ∧ decode .mbc5 0x3000FE = .mbc5Romhi 0
    ∧ decode .mbc3 0x410008 = .mbc3Ramb 0 0x08 ∧ decode .mbc1 0x5FFFFC = .mbc1Bank2 0
    ∧ decode .mbc1 0x7FFFFE = .mbc1Mode 0 ∧ decode .mbc3 0x600001 = .mbc3Latch 0x01
    ∧ decode .mbc1 0xA00005 = .anyNosel

/-! ### The step (spec/00_scope.md R9, R10) -/

/-- R9, R72: when the next operation presented is a bus write and a cartridge is active, the step is `exec` of the decoded write,
around which the step only takes the operation off the list of those to present; and `withFetchWord` places exactly its word. -/
def Obligations.StepRunsTheDecodedWrite : Prop :=
  (∀ (s : State) (a : Addr) (d : Byte) (rest : List Operation),
    s.pending = .wr a d :: rest → s.cartridgeActive = true →
      step s = exec (decode s.straps.variant (busWord a d)) (s.setPending rest))
  ∧ ∀ (s : State) (w : Nat), w < 2 ^ 24 → s.cartridgeActive = true →
      step (s.withFetchWord 24 w) = exec (decode s.straps.variant (BitVec.ofNat 24 w)) s

/-- R9: with no operation presented the decoder does not act. That the model's step then answers the same state is the model's
choice (log entry 3). -/
def Obligations.NothingPresentedNothingChanges : Prop :=
  ∀ s : State, s.pending = [] → step s = .next s

/-- R230: a bus write raises nothing: it always answers a next state; its only effects are on the registers, the latches and the
RTC port; and a write with no defined effect is ignored. -/
def Obligations.BusWritesRaiseNothing : Prop :=
  (∀ (i : Instr) (s : State), ∃ t, exec i s = .next t ∧ SameSurroundings s t)
  ∧ (∀ (i : Instr) (s : State), i ∈ ignoredRows → exec i s = .next s)
  ∧ ∀ (s : State) (a : Addr) (d : Byte) (rest : List Operation),
      s.pending = .wr a d :: rest → s.cartridgeActive = true → ∃ t, step s = .next t

/-- R48, R247, R263: before any successful LOAD a WR, a CAPTURE, a RESTORE and an access to the RAM window have no move. -/
def Obligations.OnlyLoadRunsBeforeALoad : Prop :=
  ∀ (s : State) (op : Operation) (rest : List Operation),
    s.pending = op :: rest → s.cartridgeActive = false → op.isLoad = false → step s = .refused .noCartridge

/-! ### Ignored writes (R62, R99, R124, R140, R144, R172, R175, R192 to R194) -/

/-- R99 with R62 and R140 to R194: at every address the strap ignores, whatever the data, a step only takes the write off the list
(the region-2 rows and `A[15] = 1` rest on the spec's decisions D14 and D9, log entry 19). -/
def Obligations.IgnoredAddressesChangeNothing : Prop :=
  ∀ (s : State) (a : Addr) (d : Byte) (rest : List Operation),
    s.pending = .wr a d :: rest → s.cartridgeActive = true → ignoredAt s.straps.variant a →
      step s = .next (s.setPending rest)

/-- R124, R144: on MBC2 a region-0 or region-1 write with `A[8] = 0` is `MBC2.NOP0` or `MBC2.NOP1` and changes nothing. -/
def Obligations.Mbc2NeedsAddressBitEight : Prop :=
  ∀ (a : Addr) (d : Byte) (s : State), a.toNat < 0x4000 → ¬ gateOpen a →
    decode .mbc2 (busWord a d) = (if a.toNat < 0x2000 then .mbc2Nop0 else .mbc2Nop1)
    ∧ exec (decode .mbc2 (busWord a d)) s = .next s

/-- R192, R193, R194: Plain, MBC2 and MBC5 ignore region 3. -/
def Obligations.RegionThreeIgnoredByThreeVariants : Prop :=
  ∀ (a : Addr) (d : Byte) (s : State), 0x6000 ≤ a.toNat → a.toNat < 0x8000 →
    (decode .plain (busWord a d) = .plainNop3 ∧ exec (decode .plain (busWord a d)) s = .next s)
    ∧ (decode .mbc2 (busWord a d) = .mbc2Nop3 ∧ exec (decode .mbc2 (busWord a d)) s = .next s)
    ∧ (decode .mbc5 (busWord a d) = .mbc5Nop3 ∧ exec (decode .mbc5 (busWord a d)) s = .next s)

/-! ### Region 0, RAM/RTC enable (spec/40_ram_enable.md) -/

/-- R120 to R126: what each `*.RAMEN` does and leaves alone. The visible index of a cartridge with no RAM banks rests on the spec's
decision D10 (log entry 19). -/
def Obligations.RamEnableWriteEffect : Prop :=
  ∀ (n : BitVec 4) (i : Instr) (s : State), i ∈ ramEnableRows n → ∃ t, exec i s = .next t
    ∧ t.ramEnabled = decide (n.toNat = 10)
    ∧ (s.straps.hasRtc = true →
        t.rtcIssued = s.rtcIssued ++ [.setEnabled (decide (n.toNat = 10))]
        ∧ t.rtc = s.rtc.setEnabled (decide (n.toNat = 10)))
    ∧ (s.straps.hasRtc = false → SameRtc s t)
    ∧ t.ramVis = ⟨decide (n.toNat = 10), s.straps.hasRtc && t.rtc.getActive,
        visibleRamBank s.ramBankSelect.toNat s.straps.ramBankCount⟩
    ∧ t.ramBankSelect = s.ramBankSelect ∧ t.bankingMode = s.bankingMode ∧ SameRomMapping s t ∧ SameSurroundings s t

/-- R127 and R22 (R127 is derived in the spec): no other bus write changes `ramEnabled` or commands the RTC's enable, so the register
is the nibble comparison of the most recent qualifying write. -/
def Obligations.OnlyRegionZeroWritesRamEnabled : Prop :=
  ∀ (i : Instr) (s t : State), (∀ n, i ∉ ramEnableRows n) → exec i s = .next t →
    t.ramEnabled = s.ramEnabled ∧ t.rtc.enabled = s.rtc.enabled
    ∧ ∃ l : List RtcCommand, t.rtcIssued = s.rtcIssued ++ l ∧ ∀ b, RtcCommand.setEnabled b ∉ l

/-! ### Region 1, ROM bank select (spec/41_rom_bank_select.md) -/

/-- R141 with the spec's decisions D2 to D8 (log entries 19 and 20): replace or merge, then the standard or the multicart path. -/
def Obligations.Mbc1RomloEffect : Prop :=
  ∀ (b : BitVec 5) (s : State), s.straps.variant = .mbc1 → ∃ t, exec (.mbc1Romlo b) s = .next t
    ∧ t.romBankSelect.toNat =
        (if s.bankingMode = true ∧ s.straps.multi64Quirk = false then b.toNat
         else s.romBankSelect.toNat / 32 * 32 + b.toNat)
    ∧ t.romBank =
        (if s.bankingMode = true ∧ s.straps.multi64Quirk = true then multicartBank t.romBankSelect.toNat
         else standardBank .mbc1 t.romBankSelect.toNat s.straps.romBankCount)
    ∧ t.rom0Window =
        (if s.straps.multi64Quirk = true then
          (if s.bankingMode = true then 16 * (s.romBankSelect.toNat / 32 % 4) else 0)
         else s.rom0Window)
    ∧ t.ramBankSelect = s.ramBankSelect ∧ t.ramEnabled = s.ramEnabled ∧ t.bankingMode = s.bankingMode
    ∧ t.ramVis = s.ramVis ∧ SameRtc s t ∧ SameSurroundings s t

/-- R143: `MBC2.ROMB` at every accepting address, its effect and its frame. -/
def Obligations.Mbc2RombEffect : Prop :=
  (∀ (a : Addr) (d : Byte), 0x2000 ≤ a.toNat → a.toNat < 0x4000 → gateOpen a →
    decode .mbc2 (busWord a d) = .mbc2Romb (BitVec.ofNat 4 d.toNat))
  ∧ ∀ (b : BitVec 4) (s : State), s.straps.variant = .mbc2 → ∃ t, exec (.mbc2Romb b) s = .next t
    ∧ t.romBankSelect.toNat = b.toNat ∧ t.romBank = b.toNat % s.straps.romBankCount
    ∧ t.rom0Window = s.rom0Window ∧ t.ramBankSelect = s.ramBankSelect ∧ t.ramEnabled = s.ramEnabled
    ∧ t.bankingMode = s.bankingMode ∧ t.ramVis = s.ramVis ∧ SameRtc s t ∧ SameSurroundings s t

/-- R145: `MBC3.ROMB` at every address of region 1, its effect and its frame. -/
def Obligations.Mbc3RombEffect : Prop :=
  (∀ (a : Addr) (d : Byte), 0x2000 ≤ a.toNat → a.toNat < 0x4000 →
    decode .mbc3 (busWord a d) = .mbc3Romb (BitVec.ofNat 7 d.toNat))
  ∧ ∀ (b : BitVec 7) (s : State), s.straps.variant = .mbc3 → ∃ t, exec (.mbc3Romb b) s = .next t
    ∧ t.romBankSelect.toNat = b.toNat ∧ t.romBank = b.toNat % s.straps.romBankCount
    ∧ t.rom0Window = s.rom0Window ∧ t.ramBankSelect = s.ramBankSelect ∧ t.ramEnabled = s.ramEnabled
    ∧ t.bankingMode = s.bankingMode ∧ t.ramVis = s.ramVis ∧ SameRtc s t ∧ SameSurroundings s t

/-- R147 with the spec's decisions D2 and D3 (log entry 19): the low byte replaced, bit 8 kept. -/
def Obligations.Mbc5RomloEffect : Prop :=
  ∀ (b : BitVec 8) (s : State), s.straps.variant = .mbc5 → ∃ t, exec (.mbc5Romlo b) s = .next t
    ∧ t.romBankSelect.toNat = s.romBankSelect.toNat / 256 * 256 + b.toNat
    ∧ t.romBank = standardBank .mbc5 (s.romBankSelect.toNat / 256 * 256 + b.toNat) s.straps.romBankCount
    ∧ t.rom0Window = s.rom0Window ∧ t.ramBankSelect = s.ramBankSelect ∧ t.ramEnabled = s.ramEnabled
    ∧ t.bankingMode = s.bankingMode ∧ t.ramVis = s.ramVis ∧ SameRtc s t ∧ SameSurroundings s t

/-- R148 with the spec's decisions D2 and D3 (log entry 19): bit 8 replaced, the low byte kept. -/
def Obligations.Mbc5RomhiEffect : Prop :=
  ∀ (h : BitVec 1) (s : State), s.straps.variant = .mbc5 → ∃ t, exec (.mbc5Romhi h) s = .next t
    ∧ t.romBankSelect.toNat = 256 * h.toNat + s.romBankSelect.toNat % 256
    ∧ t.romBank = standardBank .mbc5 (256 * h.toNat + s.romBankSelect.toNat % 256) s.straps.romBankCount
    ∧ t.rom0Window = s.rom0Window ∧ t.ramBankSelect = s.ramBankSelect ∧ t.ramEnabled = s.ramEnabled
    ∧ t.bankingMode = s.bankingMode ∧ t.ramVis = s.ramVis ∧ SameRtc s t ∧ SameSurroundings s t

/-- R73, R104, R274: the two writes of an MBC5 bank number give the same register and the same bank in either order. -/
def Obligations.Mbc5BankNumberInEitherOrder : Prop :=
  ∀ (n : BitVec 9) (s : State), s.straps.variant = .mbc5 → ∃ t1 t2 u1 u2,
    exec (.mbc5Romlo (n.extractLsb' 0 8)) s = .next t1 ∧ exec (.mbc5Romhi (n.extractLsb' 8 1)) t1 = .next t2
    ∧ exec (.mbc5Romhi (n.extractLsb' 8 1)) s = .next u1 ∧ exec (.mbc5Romlo (n.extractLsb' 0 8)) u1 = .next u2
    ∧ t2 = u2 ∧ t2.romBankSelect = n

/-- R149 (derived in the spec): after every region-1 write that is not ignored, whatever the latches held, `romBank` is the view of
the new registers (the view rests on the spec's decisions D2 to D7, log entries 19 and 20). -/
def Obligations.RegionOneRefreshesAtOnce : Prop :=
  ∀ (i : Instr) (s t : State), s.straps.wellFormed = true →
    ((s.straps.variant = .mbc1 ∧ ∃ b, i = .mbc1Romlo b) ∨ (s.straps.variant = .mbc2 ∧ ∃ b, i = .mbc2Romb b)
      ∨ (s.straps.variant = .mbc3 ∧ ∃ b, i = .mbc3Romb b)
      ∨ (s.straps.variant = .mbc5 ∧ ((∃ b, i = .mbc5Romlo b) ∨ ∃ h, i = .mbc5Romhi h))) →
    exec i s = .next t → t.romBank = t.viewRomBank

/-! ### Region 2, RAM bank and upper ROM bits (spec/42_ram_bank_upper_bits.md) -/

/-- R170 with the spec's decisions D2 to D11 (log entries 19 and 20): the three sub-cases, in a state of an MBC1 cartridge. -/
def Obligations.Mbc1Bank2Effect : Prop :=
  ∀ (u : BitVec 2) (s : State), s.straps.variant = .mbc1 → ∃ t, exec (.mbc1Bank2 u) s = .next t
    ∧ (s.bankingMode = true → s.straps.multi64Quirk = false →
        t.ramBankSelect.toNat = u.toNat
        ∧ t.ramVis = ⟨s.ramEnabled, s.straps.hasRtc && s.rtc.getActive, visibleRamBank u.toNat s.straps.ramBankCount⟩
        ∧ SameRomMapping s t)
    ∧ ((s.bankingMode = false ∨ s.straps.multi64Quirk = true) →
        t.romBankSelect.toNat =
          s.romBankSelect.toNat / 128 * 128 + 32 * u.toNat + s.romBankSelect.toNat % 32
        ∧ t.ramBankSelect = s.ramBankSelect ∧ t.ramVis = s.ramVis)
    ∧ (s.bankingMode = true → s.straps.multi64Quirk = true →
        t.rom0Window = 16 * u.toNat ∧ t.romBank = multicartBank t.romBankSelect.toNat)
    ∧ (s.bankingMode = false →
        t.romBank = standardBank .mbc1 t.romBankSelect.toNat s.straps.romBankCount
        ∧ t.rom0Window = (if s.straps.multi64Quirk = true then 0 else s.rom0Window))
    ∧ t.ramEnabled = s.ramEnabled ∧ t.bankingMode = s.bankingMode ∧ SameRtc s t ∧ SameSurroundings s t

/-- R173: the register takes the low two bits, the raw byte goes to the RTC where there is the chip, and the status is read after
it (with the spec's decisions D10 and D22, log entry 19). -/
def Obligations.Mbc3RambEffect : Prop :=
  ∀ (d : Byte) (s : State), ∃ t, exec (.mbc3Ramb (BitVec.ofNat 2 d.toNat) d) s = .next t
    ∧ t.ramBankSelect.toNat = d.toNat % 4
    ∧ (s.straps.hasRtc = true → t.rtcIssued = s.rtcIssued ++ [.swapActive d] ∧ t.rtc = s.rtc.swapActive d)
    ∧ (s.straps.hasRtc = false → SameRtc s t)
    ∧ t.ramVis = ⟨s.ramEnabled, s.straps.hasRtc && t.rtc.getActive,
        visibleRamBank (d.toNat % 4) s.straps.ramBankCount⟩
    ∧ t.ramEnabled = s.ramEnabled ∧ t.bankingMode = s.bankingMode ∧ SameRomMapping s t ∧ SameSurroundings s t

/-- R174 (with the spec's decision D10 for a cartridge with no RAM banks, log entry 19). -/
def Obligations.Mbc5RambEffect : Prop :=
  ∀ (u : BitVec 4) (s : State), ∃ t, exec (.mbc5Ramb u) s = .next t
    ∧ t.ramBankSelect = u
    ∧ t.ramVis = ⟨s.ramEnabled, s.straps.hasRtc && s.rtc.getActive, visibleRamBank u.toNat s.straps.ramBankCount⟩
    ∧ t.ramEnabled = s.ramEnabled ∧ t.bankingMode = s.bankingMode ∧ SameRomMapping s t ∧ SameRtc s t
    ∧ SameSurroundings s t

/-! ### Region 3, banking mode and RTC latch (spec/43_mode_latch.md) -/

/-- R190 with the spec's decisions D2 to D8 (log entries 19 and 20): the mode, and on a multicart cartridge both windows. -/
def Obligations.Mbc1ModeEffect : Prop :=
  ∀ (m : BitVec 1) (s : State), s.straps.variant = .mbc1 → ∃ t, exec (.mbc1Mode m) s = .next t
    ∧ t.bankingMode = decide (m.toNat = 1)
    ∧ (s.straps.multi64Quirk = false → t.romBank = s.romBank ∧ t.rom0Window = s.rom0Window)
    ∧ (s.straps.multi64Quirk = true → m.toNat = 1 →
        t.rom0Window = 16 * (s.romBankSelect.toNat / 32 % 4) ∧ t.romBank = multicartBank s.romBankSelect.toNat)
    ∧ (s.straps.multi64Quirk = true → m.toNat = 0 →
        t.rom0Window = 0 ∧ t.romBank = standardBank .mbc1 s.romBankSelect.toNat s.straps.romBankCount)
    ∧ t.romBankSelect = s.romBankSelect ∧ t.ramBankSelect = s.ramBankSelect ∧ t.ramEnabled = s.ramEnabled
    ∧ t.ramVis = s.ramVis ∧ SameRtc s t ∧ SameSurroundings s t

/-- R191 (with the spec's decision D12: on every MBC3 cartridge, log entry 19) and R34 (e): the byte is forwarded, nothing of the
decoder changes, and neither does the RTC's answer. -/
def Obligations.Mbc3LatchEffect : Prop :=
  ∀ (l : Byte) (s : State), ∃ t, exec (.mbc3Latch l) s = .next t
    ∧ t.rtcIssued = s.rtcIssued ++ [.latch l] ∧ t.rtc = s.rtc ∧ t.rtc.getActive = s.rtc.getActive
    ∧ t.ramBankSelect = s.ramBankSelect ∧ t.ramEnabled = s.ramEnabled ∧ t.bankingMode = s.bankingMode
    ∧ t.ramVis = s.ramVis ∧ SameRomMapping s t ∧ SameSurroundings s t

/-! ### Rules over all bus writes -/

/-- R176 and R195 (derived in the spec): region 2 never changes `ramEnabled` or `bankingMode`, and changes `romBankSelect` only for
MBC1; region 3 never changes `romBankSelect`, `ramBankSelect` or `ramEnabled`, and changes `bankingMode` only for MBC1. -/
def Obligations.RegionTwoAndThreeFrames : Prop :=
  ∀ (v : Variant) (a : Addr) (d : Byte) (s t : State), exec (decode v (busWord a d)) s = .next t →
    (0x4000 ≤ a.toNat → a.toNat < 0x6000 →
      t.ramEnabled = s.ramEnabled ∧ t.bankingMode = s.bankingMode
      ∧ (v ≠ .mbc1 → t.romBankSelect = s.romBankSelect))
    ∧ (0x6000 ≤ a.toNat → a.toNat < 0x8000 →
      t.romBankSelect = s.romBankSelect ∧ t.ramBankSelect = s.ramBankSelect ∧ t.ramEnabled = s.ramEnabled
      ∧ (v ≠ .mbc1 → t.bankingMode = s.bankingMode))

/-- R77 (derived in the spec): the same write twice leaves the four registers and the output latches as one write does. For an
MBC3 cartridge with the chip it rests on log entry 6: a repeated command does not change the RTC Model's answer. -/
def Obligations.TheSameWriteTwiceIsOneWrite : Prop :=
  ∀ (i : Instr) (s t u : State), exec i s = .next t → exec i t = .next u →
    u.romBankSelect = t.romBankSelect ∧ u.ramBankSelect = t.ramBankSelect ∧ u.ramEnabled = t.ramEnabled
    ∧ u.bankingMode = t.bankingMode ∧ u.romBank = t.romBank ∧ u.rom0Window = t.rom0Window ∧ u.ramVis = t.ramVis

/-- R28: LOAD writes the straps, all of them at once (the bank count of R204 rests on the spec's D19 and C4, log entry 19, and the
classifier's answers are inputs, log entry 17); no bus write and no RESTORE changes one (nor a CAPTURE or a RAM-window write); and
nothing reads `hasBattery`: a successful LOAD answers the same state whatever it was, every other operation, a read of a window and
the save-data blob are the same with it changed. -/
def Obligations.OnlyLoadWritesTheStraps : Prop :=
  (∀ (s t : State) (r : LoadRequest) (rest : List Operation),
    s.pending = .load r :: rest → step s = .next t → t.reply = .loaded →
      ∃ v, r.header.variant = some v ∧ t.straps = strapsOf v r)
  ∧ (∀ (s t : State) (op : Operation) (rest : List Operation),
    s.pending = op :: rest → op.isLoad = false → step s = .next t → t.straps = s.straps)
  ∧ (∀ (i : Instr) (s t : State) (b : Bool), exec i s = .next t →
    exec i (s.setStraps { s.straps with hasBattery := b }) = .next (t.setStraps { s.straps with hasBattery := b }))
  ∧ (∀ (saved : SavedState) (s : State) (b : Bool),
    restoreStep saved (s.setStraps { s.straps with hasBattery := b })
      = (restoreStep saved s).setStraps { s.straps with hasBattery := b })
  ∧ (∀ (s t : State) (op : Operation) (b : Bool), op.isLoad = false → present op s = .next t →
    present op (s.setStraps { s.straps with hasBattery := b }) = .next (t.setStraps { s.straps with hasBattery := b }))
  ∧ (∀ (s t : State) (r : LoadRequest) (b : Bool), loadStep r s = .next t → t.reply = .loaded →
    loadStep r (s.setStraps { s.straps with hasBattery := b }) = .next t)
  ∧ ∀ (s : State) (a : Addr) (b : Bool),
    (s.setStraps { s.straps with hasBattery := b }).memRead a = s.memRead a
    ∧ savedata (s.setStraps { s.straps with hasBattery := b }) = savedata s

/-- R29: a successful LOAD sets `multi64Quirk` exactly when there are no RAM banks, exactly 64 ROM banks, the variant is MBC1 and
compatibility was asked for; no other operation changes it; and CAPTURE does not persist it. -/
def Obligations.QuirkIsSetOnlyByLoad : Prop :=
  (∀ (s t : State) (r : LoadRequest) (rest : List Operation),
    s.pending = .load r :: rest → step s = .next t → t.reply = .loaded →
      (t.straps.multi64Quirk = true ↔
        t.straps.ramBankCount = 0 ∧ t.straps.romBankCount = 64 ∧ t.straps.variant = .mbc1 ∧ r.multicartCompat = true))
  ∧ (∀ (s t : State) (op : Operation) (rest : List Operation),
    s.pending = op :: rest → op.isLoad = false → step s = .next t → t.straps.multi64Quirk = s.straps.multi64Quirk)
  ∧ ∀ (s : State) (b : Bool),
    savedStateOf (s.setStraps { s.straps with multi64Quirk := b }) = savedStateOf s

/-! ### Invariants -/

/-- R43, R8: every step keeps the invariant: a well-formed configuration, latches that show the view of the registers, the straps
and the RTC status, and both buffers in canonical form (the view rests on the spec's decisions, log entries 19 and 20). -/
def Obligations.StepKeepsTheInvariant : Prop :=
  ∀ s t : State, s.Inv → step s = .next t → t.Inv

/-- The invariant holds right after reset. -/
def Obligations.ResetMeetsTheInvariant : Prop := State.reset.Inv

/-- R25 (derived in the spec) for bus writes, the Plain and MBC2 rows of `ramBankSelect` with the spec's D14 (log entry 19); and for
LOAD, whose reset values R46 and R209 are the spec's D1 (log entry 1): every step but a RESTORE keeps the registers within the values
R25 gives for the variant. -/
def Obligations.StepKeepsWriteReach : Prop :=
  ∀ s t : State, s.inWriteReach → (∀ op rest, s.pending = op :: rest → op.isRestore = false) →
    step s = .next t → t.inWriteReach

/-- R46, R47 (the spec's decision D1, log entry 1): the registers and latches right after reset; and R25 holds there. -/
def Obligations.ResetRegistersAndLatches : Prop :=
  State.reset.romBankSelect.toNat = 1 ∧ State.reset.ramBankSelect.toNat = 0 ∧ State.reset.ramEnabled = false
    ∧ State.reset.bankingMode = false ∧ State.reset.romBank = 1 ∧ State.reset.rom0Window = 0
    ∧ State.reset.ramVis = ⟨false, false, 0⟩ ∧ State.reset.inWriteReach

/-- R44 (derived in the spec): the effective ROM bank is below the bank count in every state that meets the invariant; and so is the
bank of the low window, whose selector is a bank number with the value `multi64(r) & 0x30` by the spec's D6 (log entry 20). -/
def Obligations.RomBankIsBelowTheBankCount : Prop :=
  ∀ s : State, s.Inv → s.romBank < s.straps.romBankCount ∧ s.rom0Window < s.straps.romBankCount

/-- R45 (derived in the spec, with its decisions D2, D3 and D7, log entries 19 and 20): when the high window shows bank 0. -/
def Obligations.WhenTheHighWindowShowsBankZero : Prop :=
  ∀ s : State, s.Inv → s.inWriteReach →
    (s.straps.variant = .plain → s.romBank = 1)
    ∧ (s.straps.variant = .mbc2 ∨ s.straps.variant = .mbc3 →
        (s.romBank = 0 ↔ s.romBankSelect.toNat % s.straps.romBankCount = 0))
    ∧ (s.straps.variant = .mbc1 ∨ s.straps.variant = .mbc5 →
        (s.romBank = 0 ↔ ¬ (s.bankingMode = true ∧ s.straps.multi64Quirk = true)
          ∧ s.romBankSelect.toNat ≠ 0 ∧ s.romBankSelect.toNat % s.straps.romBankCount = 0))

/-- R280 (derived in the spec, with D5): in RAM-banking mode a multicart cartridge ignores bit 4 of a region-1 write. -/
def Obligations.MulticartIgnoresBitFour : Prop :=
  ∀ (b : BitVec 5) (s t u : State), s.straps.variant = .mbc1 → s.straps.multi64Quirk = true → s.bankingMode = true →
    exec (.mbc1Romlo b) s = .next t → exec (.mbc1Romlo (b ^^^ 0x10)) s = .next u →
      t.romBank = u.romBank ∧ t.rom0Window = u.rom0Window ∧ t.romBankSelect ≠ u.romBankSelect

/-! ### The bank spaces and the windows (spec/20_memory.md) -/

/-- R71 (derived in the spec): no operation but LOAD changes a ROM byte, and a RAM byte changes only where a write into the RAM window
lands. -/
def Obligations.BytesChangeOnlyWhereWritten : Prop :=
  ∀ (s t : State) (op : Operation) (rest : List Operation),
    s.pending = op :: rest → op.isLoad = false → Memory.wf .ram s.ram → step s = .next t →
      (∀ a, t.romByte a = s.romByte a)
      ∧ ∀ a, (∀ o d, op = .ramWrite o d → s.ramTarget o.toNat ≠ some a) → t.ramByte a = s.ramByte a

/-- R69 (derived in the spec): a write into the RAM window reaches nothing of this machine while the RTC is active, reaches RAM byte
`bank * 0x2000 + o` while RAM is enabled and there is RAM, and is lost otherwise; nothing else changes (that the model gives the
Bank Pointer Table's buffers a place is its own choice, log entry 12). -/
def Obligations.RamWindowWriteEffect : Prop :=
  ∀ (o : BitVec 13) (d : Byte) (s : State) (rest : List Operation),
    s.pending = .ramWrite o d :: rest → s.cartridgeActive = true → Memory.wf .ram s.ram → ∃ t, step s = .next t
    ∧ ((s.ramVis.rtcActive = true ∨ s.ramVis.enabled = false ∨ s.straps.ramBankCount = 0) → t = s.setPending rest)
    ∧ (s.ramVis.rtcActive = false → s.ramVis.enabled = true → s.straps.ramBankCount ≠ 0 →
        t.ramByte (s.ramVis.bank * 0x2000 + o.toNat) = some d
        ∧ (∀ a, a ≠ s.ramVis.bank * 0x2000 + o.toNat → t.ramByte a = s.ramByte a)
        ∧ t.setRam s.ram = s.setPending rest)

/-- R67, R68 and R80 (the windows are derived in the spec): after any bus write the very next read of either ROM window answers the
byte of the bank the new registers select. That bank rests on the spec's decisions D2 to D8, D6 for the unit of the low window's
selector (log entries 19 and 20); the bytes are the model's own buffers (log entry 12), which hold nothing before a LOAD (log entry
26). -/
def Obligations.NextReadSeesTheNewBank : Prop :=
  ∀ (i : Instr) (s t : State) (a : Addr), s.Inv → s.buffersDefined = true → i.readUnder s.straps.variant = true →
    exec i s = .next t → a.toNat < 0x8000 →
      ∃ v, s.romByte ((if a.toNat < 0x4000 then t.viewRom0Window else t.viewRomBank) * 0x4000 + a.toNat % 0x4000) = some v
        ∧ t.memRead a = .byte v

/-- R69 with the spec's decision D21 for the window's address (PRESUMED, log entry 14): what a read of the RAM window answers while
a cartridge is active (before that, `ReadsBeforeALoadAreUnspecified`). -/
def Obligations.RamWindowReads : Prop :=
  ∀ (s : State) (a : Addr), 0xA000 ≤ a.toNat → a.toNat < 0xC000 →
    (s.cartridgeActive = true → s.ramVis.rtcActive = true → s.memRead a = .rtcRegister)
    ∧ (s.ramVis.rtcActive = false → (s.ramVis.enabled = false ∨ s.straps.ramBankCount = 0) →
        s.memRead a = .unspecified)
    ∧ (∀ v, s.ramVis.rtcActive = false → s.ramVis.enabled = true → s.straps.ramBankCount ≠ 0 → s.buffersDefined = true →
        s.ramByte (s.ramVis.bank * 0x2000 + (a.toNat - 0xA000)) = some v → s.memRead a = .byte v)

/-! ### The RTC port (spec/10_state.md R33, R34) -/

/-- R34 (b), (c) through the bus (the source's second scenario, S7): with the chip, enabling and then selecting 0x08 makes the RTC
active, and selecting 0 to 3 brings the RAM bank back, whatever the state before. -/
def Obligations.SelectorsTheContractFixes : Prop :=
  ∀ (s : State) (n : Byte), s.straps.hasRtc = true → n.toNat < 4 → ∃ t u w,
    exec (.mbc3Ramen 0xA) s = .next t ∧ exec (.mbc3Ramb 0 0x08) t = .next u
    ∧ u.ramVis = ⟨true, true, 0⟩
    ∧ exec (.mbc3Ramb (BitVec.ofNat 2 n.toNat) n) u = .next w
    ∧ w.ramVis = ⟨true, false, visibleRamBank n.toNat s.straps.ramBankCount⟩

/-! ### Host operations (spec/44_host_operations.md) -/

/-- R206: CAPTURE answers the four raw registers and changes nothing in the decoder. -/
def Obligations.CaptureAnswersTheRawRegisters : Prop :=
  ∀ (s : State) (rest : List Operation), s.pending = .capture :: rest → s.cartridgeActive = true →
    ∃ t saved, step s = .next t ∧ t.reply = .captured saved
      ∧ saved.romBankSelect = s.romBankSelect ∧ saved.ramBankSelect = s.ramBankSelect
      ∧ saved.ramEnabled = s.ramEnabled ∧ saved.bankingMode = s.bankingMode
      ∧ t.rtcIssued = s.rtcIssued ++ [.capture] ∧ t.rtc = s.rtc ∧ t.straps = s.straps
      ∧ t.ramBankSelect = s.ramBankSelect ∧ t.ramEnabled = s.ramEnabled ∧ t.bankingMode = s.bankingMode
      ∧ t.ramVis = s.ramVis ∧ SameRomMapping s t ∧ t.rom = s.rom ∧ t.ram = s.ram

/-- R207 with the spec's decisions D2 to D8 and D18 (log entries 19 and 20): the four registers are the tuple's, whatever it is; the
RTC Model is restored with its enable false where there is no chip; and every latch is the view of the restored registers, whatever
`romBank` and `ramVis` held (the low window of a cartridge that is no multicart is 0 before, and no refresh writes it, R41). -/
def Obligations.RestoreRederivesEveryLatch : Prop :=
  ∀ (s : State) (saved : SavedState) (rest : List Operation),
    s.pending = .restore saved :: rest → s.cartridgeActive = true → s.straps.wellFormed = true →
    (s.straps.multi64Quirk = false → s.rom0Window = 0) →
    ∃ t, step s = .next t ∧ t.romBankSelect = saved.romBankSelect ∧ t.ramBankSelect = saved.ramBankSelect
      ∧ t.ramEnabled = saved.ramEnabled ∧ t.bankingMode = saved.bankingMode ∧ t.ShowsView
      ∧ t.rtcIssued = s.rtcIssued ++ [.restore saved.rtc (s.straps.hasRtc && saved.ramEnabled)]
      ∧ t.straps = s.straps ∧ t.rom = s.rom ∧ t.ram = s.ram

/-- R208 (derived in the spec): CAPTURE and then RESTORE of the captured tuple gives back the registers and the latches, provided, on
a cartridge with the chip, the RTC Model's own capture and restore round-trip its answer. -/
def Obligations.CaptureThenRestoreRoundTrips : Prop :=
  ∀ (s t u : State) (saved : SavedState), s.Inv → s.cartridgeActive = true →
    present .capture s = .next t → t.reply = .captured saved → present (.restore saved) t = .next u →
    (s.straps.hasRtc = true → u.rtc.getActive = s.rtc.getActive) →
      u.romBankSelect = s.romBankSelect ∧ u.ramBankSelect = s.ramBankSelect ∧ u.ramEnabled = s.ramEnabled
      ∧ u.bankingMode = s.bankingMode ∧ u.romBank = s.romBank ∧ u.rom0Window = s.rom0Window ∧ u.ramVis = s.ramVis

/-- R204 (the maximum with 2 and the rounding are the spec's C4 and D19, log entry 19): the ROM bank count is the least power of two
that is at least 2 and at least the number of whole banks. -/
def Obligations.RomBankCountIsTheLeastPowerOfTwo : Prop :=
  ∀ size : Nat,
    (∃ k, romBankCountOf size = 2 ^ k) ∧ 2 ≤ romBankCountOf size ∧ size / 0x4000 ≤ romBankCountOf size
    ∧ ∀ k, 2 ≤ 2 ^ k → size / 0x4000 ≤ 2 ^ k → romBankCountOf size ≤ 2 ^ k

/-- R209 with R46 and R47 (the spec's decision D1, log entry 1), R204, R205: a LOAD that meets no cause of failure makes the cartridge
active under its straps, resets the registers, shows bank 0 and bank 1, and issues no RTC command. The Bank Pointer Table's buffers
after it, by R200 steps 4 and 5 and R203, are the model's own (log entry 12): the whole banks of the image and 0xFF above them (log
entry 15), no RAM byte with a value (log entry 13), and the working-RAM banks (log entry 18). -/
def Obligations.LoadResetsTheDecoder : Prop :=
  ∀ (s : State) (r : LoadRequest) (v : Variant) (rest : List Operation),
    s.pending = .load r :: rest → 0x4000 ≤ r.image.size → r.header.variant = some v → r.readFails = false →
    (r.header.hasRtc = true → v = .mbc3) →
    ∃ t, step s = .next t ∧ t.reply = .loaded ∧ t.cartridgeActive = true
      ∧ t.straps.variant = v ∧ t.straps.romBankCount = romBankCountOf r.image.size
      ∧ t.straps.ramBankCount = r.header.ramBankCount ∧ t.straps.hasRtc = r.header.hasRtc
      ∧ t.straps.hasBattery = r.header.hasBattery ∧ t.straps.wellFormed = true
      ∧ t.romBankSelect.toNat = 1 ∧ t.ramBankSelect.toNat = 0 ∧ t.ramEnabled = false ∧ t.bankingMode = false
      ∧ t.rom0Window = 0 ∧ t.romBank = 1 ∧ t.ramVis = ⟨false, t.straps.hasRtc && t.rtc.getActive, 0⟩
      ∧ t.rtcIssued = s.rtcIssued
      ∧ (∀ a, a < r.image.size / 0x4000 * 0x4000 → t.romByte a = some (r.image.byteAt a))
      ∧ (∀ a, r.image.size / 0x4000 * 0x4000 ≤ a → t.romByte a = some 0xFF)
      ∧ (∀ a, t.ramByte a = none) ∧ t.buffersDefined = true
      ∧ t.workRamBanks = (if r.header.cgb = true ∧ r.forceMonochrome = false then 8 else 2)

/-- R201, R202, R231, R237, and R210 (the spec's D25): the first cause that applies, in the order size, mapper, read, is the one
reported; the straps, registers, latches and the RTC port are as before, and a cartridge is active afterwards exactly if one was. -/
def Obligations.FailedLoadLeavesTheDecoder : Prop :=
  ∀ (s : State) (r : LoadRequest) (rest : List Operation), s.pending = .load r :: rest →
    (r.image.size < 0x4000 ∨ r.header.variant = none ∨ r.readFails = true) →
    ∃ t, step s = .next t
      ∧ t.reply = .loadFailed (if r.image.size < 0x4000 then .undersized
          else if r.header.variant = none then .unsupportedMapper else .readFailure)
      ∧ t.cartridgeActive = s.cartridgeActive ∧ t.straps = s.straps ∧ SameRomMapping s t
      ∧ t.ramBankSelect = s.ramBankSelect ∧ t.ramEnabled = s.ramEnabled ∧ t.bankingMode = s.bankingMode
      ∧ t.ramVis = s.ramVis ∧ SameRtc s t ∧ t.pending = rest

/-- R8 (c) (the spec's D17, log entry 19) with U15: a LOAD that meets no cause of failure and whose header has an RTC on a variant other
than MBC3 makes no configuration a loader produces, and the model refuses it (log entry 11). -/
def Obligations.IllFormedLoadIsRefused : Prop :=
  ∀ (s : State) (r : LoadRequest) (v : Variant) (rest : List Operation),
    s.pending = .load r :: rest → 0x4000 ≤ r.image.size → r.header.variant = some v → r.readFails = false →
    r.header.hasRtc = true → v ≠ .mbc3 → step s = .refused .illFormedConfiguration

/-- The model's choice, log entry 26 (the spec gives no decoder before a successful LOAD, R48 and R263, and is silent on reads): every
read of a cartridge window is unspecified then. -/
def Obligations.ReadsBeforeALoadAreUnspecified : Prop :=
  ∀ (s : State) (a : Addr), s.cartridgeActive = false →
    (a.toNat < 0x8000 ∨ (0xA000 ≤ a.toNat ∧ a.toNat < 0xC000)) → s.memRead a = .unspecified

/-- R212, R64: the save-data blob is the raw RAM-bank buffer, all of it, byte by byte; where the spec does not say what the buffer is,
before a LOAD (log entry 26) and after a late read failure (U18, log entry 16), neither its size nor a byte of it is given. -/
def Obligations.SavedataIsTheRamBuffer : Prop :=
  ∀ s : State,
    (s.cartridgeActive = true → s.buffersIntact = true → ∃ l, savedata s = some l
      ∧ savedataSize s = some l.length ∧ l.length = s.straps.ramBankCount * 0x2000
      ∧ ∀ a, a < l.length → l[a]? = some (s.ramByte a))
    ∧ (s.cartridgeActive = false ∨ s.buffersIntact = false → savedata s = none ∧ savedataSize s = none)
end

