-- ==== Sys2Proof/Laws/Banks.lean ====
section
/-! SUPPORT. The bit-level operations on registers as arithmetic on numbers, and the bank functions in the terms of Safety.lean. -/

namespace Sys2Proof.Machine

/-! ### Assemblies (spec/30_encoding.md R93) -/

theorem replaceSelect_toNat {n : Nat} (hn : n ≤ 9) (b : BitVec n) : (replaceSelect b).toNat = b.toNat := by
  have hb := b.isLt
  have h : 2 ^ n ≤ 2 ^ 9 := Nat.pow_le_pow_right (by omega) hn
  simp only [replaceSelect, BitVec.toNat_setWidth]
  exact Nat.mod_eq_of_lt (by omega)

theorem mask_upper_four (r : BitVec 9) : (r &&& 0x1E0).toNat = r.toNat / 32 * 32 := by
  revert r; decide

theorem mask_all_but_upper_two (r : BitVec 9) :
    (r &&& 0x19F).toNat = r.toNat / 128 * 128 + r.toNat % 32 := by
  revert r; decide

theorem mask_bit_eight (r : BitVec 9) : (r &&& 0x100).toNat = r.toNat / 256 * 256 := by
  revert r; decide

theorem mask_low_eight (r : BitVec 9) : (r &&& 0x0FF).toNat = r.toNat % 256 := by
  revert r; decide

theorem mergeLowFive_toNat (r : BitVec 9) (b : BitVec 5) :
    (mergeLowFive r b).toNat = r.toNat / 32 * 32 + b.toNat := by
  have hb := b.isLt
  simp only [mergeLowFive, BitVec.toNat_or, mask_upper_four, BitVec.toNat_setWidth]
  rw [Nat.mod_eq_of_lt (by omega), Nat.mul_comm]
  exact (Nat.two_pow_add_eq_or_of_lt (i := 5) hb _).symm

theorem mergeLowEight_toNat (r : BitVec 9) (b : BitVec 8) :
    (mergeLowEight r b).toNat = r.toNat / 256 * 256 + b.toNat := by
  have hb := b.isLt
  simp only [mergeLowEight, BitVec.toNat_or, mask_bit_eight, BitVec.toNat_setWidth]
  rw [Nat.mod_eq_of_lt (by omega), Nat.mul_comm]
  exact (Nat.two_pow_add_eq_or_of_lt (i := 8) hb _).symm

theorem mergeBitEight_toNat (r : BitVec 9) (h : BitVec 1) :
    (mergeBitEight r h).toNat = 256 * h.toNat + r.toNat % 256 := by
  have hh := h.isLt
  have hs : (h.setWidth 9 <<< 8).toNat = 256 * h.toNat := by
    revert h; decide
  simp only [mergeBitEight, BitVec.toNat_or, mask_low_eight, hs]
  exact (Nat.two_pow_add_eq_or_of_lt (i := 8) (Nat.mod_lt _ (by omega)) _).symm

theorem mergeUpperTwo_toNat (r : BitVec 9) (u : BitVec 2) :
    (mergeUpperTwo r u).toNat = r.toNat / 128 * 128 + 32 * u.toNat + r.toNat % 32 := by
  revert r u; decide

theorem zextRamBank_toNat (u : BitVec 2) : (zextRamBank u).toNat = u.toNat := by
  revert u; decide

/-! ### Bank functions (spec/10_state.md R35 to R38) -/

theorem stdBank_eq (v : Variant) (r : BitVec 9) (n : Nat) : stdBank v r n = standardBank v r.toNat n := by
  cases v <;> simp [stdBank, zeroRemap, standardBank]

theorem multi64_toNat (r : BitVec 9) : (multi64 r).toNat = multicartIndex r.toNat := by
  revert r; decide

theorem multi64Bank_eq (r : BitVec 9) : multi64Bank r = multicartBank r.toNat := by
  simp [multi64Bank, zeroRemap, multi64_toNat, multicartBank]

theorem multi64Block_eq (r : BitVec 9) : multi64Block r = 16 * (r.toNat / 32 % 4) := by
  revert r; decide

theorem ramIndex_eq (s : BitVec 4) (m : Nat) : ramIndex s m = visibleRamBank s.toNat m := rfl

theorem multicartIndex_lt (r : Nat) : multicartIndex r < 64 := by
  unfold multicartIndex; omega

/-- The multicart path never shows bank 0 in the high window (R45). -/
theorem multicartBank_pos (r : Nat) : 0 < multicartBank r := by
  unfold multicartBank; split <;> omega

theorem multicartBank_lt (r : Nat) : multicartBank r < 64 := by
  have := multicartIndex_lt r
  unfold multicartBank; split <;> omega

theorem standardBank_lt (v : Variant) (r : Nat) {n : Nat} (hn : 0 < n) : standardBank v r n < n := by
  cases v <;> exact Nat.mod_lt _ hn

/-! ### Boolean values -/

theorem enableValue_eq (n : BitVec 4) : enableValue n = decide (n.toNat = 10) := by
  revert n; decide

theorem modeValue_eq (m : BitVec 1) : modeValue m = decide (m.toNat = 1) := by
  revert m; decide

/-! ### Well-formed configurations (spec/00_scope.md R8) -/

theorem straps_wellFormed_iff (c : Straps) :
    c.wellFormed = true ↔ isPowerOfTwo c.romBankCount = true ∧ 2 ≤ c.romBankCount
      ∧ (c.multi64Quirk = true ↔ c.ramBankCount = 0 ∧ c.romBankCount = 64 ∧ c.variant = .mbc1 ∧ c.multicartCompat = true)
      ∧ (c.hasRtc = true → c.variant = .mbc3) := by
  have hq : (c.multi64Quirk
        = (c.ramBankCount == 0 && c.romBankCount == 64 && c.variant == .mbc1 && c.multicartCompat)) ↔
      (c.multi64Quirk = true ↔
        c.ramBankCount = 0 ∧ c.romBankCount = 64 ∧ c.variant = .mbc1 ∧ c.multicartCompat = true) := by
    rw [Bool.eq_iff_iff]
    simp [and_assoc]
  simp only [Straps.wellFormed, Bool.and_eq_true, decide_eq_true_eq, beq_iff_eq, Bool.or_eq_true, Bool.not_eq_true',
    and_assoc, hq]
  cases c.hasRtc <;> simp

/-- A well-formed configuration has a ROM bank. -/
theorem romBankCount_pos {c : Straps} (h : c.wellFormed = true) : 0 < c.romBankCount :=
  Nat.lt_of_lt_of_le (by omega) ((straps_wellFormed_iff c).1 h).2.1

/-- The quirk is wired on MBC1 with exactly 64 banks only. -/
theorem quirk_facts {c : Straps} (h : c.wellFormed = true) (hq : c.multi64Quirk = true) :
    c.romBankCount = 64 ∧ c.variant = .mbc1 := by
  have := ((straps_wellFormed_iff c).1 h).2.2.1.1 hq
  exact ⟨this.2.1, this.2.2.1⟩

end Sys2Proof.Machine
end

