-- ==== Sys2Proof/Laws/Decode.lean ====
section
/-! SUPPORT. The fields of a word as numbers: what a proof about addresses and data needs of the decode function. -/

namespace Sys2Proof

@[simp] theorem addrOf_busWord (a : Addr) (d : Byte) : addrOf (busWord a d) = a := by
  apply BitVec.eq_of_getLsbD_eq
  intro i hi
  simp only [addrOf, busWord, BitVec.getLsbD_extractLsb', BitVec.getLsbD_append, hi, decide_true, Bool.true_and]
  rw [if_neg (by omega)]
  congr 1
  omega

@[simp] theorem dataOf_busWord (a : Addr) (d : Byte) : dataOf (busWord a d) = d := by
  apply BitVec.eq_of_getLsbD_eq
  intro i hi
  simp only [dataOf, busWord, BitVec.getLsbD_extractLsb', BitVec.getLsbD_append, hi, decide_true, Bool.true_and]
  rw [if_pos (by omega)]
  congr 1
  omega

/-- `W = A ++ D`. -/
theorem busWord_addrOf_dataOf (w : BusWord) : busWord (addrOf w) (dataOf w) = w := by
  apply BitVec.eq_of_getLsbD_eq
  intro i hi
  simp only [addrOf, dataOf, busWord, BitVec.getLsbD_append, BitVec.getLsbD_extractLsb']
  by_cases h : i < 8
  · simp [h]
  · have h16 : i - 8 < 16 := by omega
    have h8 : 8 + (i - 8) = i := by omega
    simp [h, h16, h8]

/-- Decoding a word is decoding its address and its data. -/
theorem decode_busWord (v : Variant) (a : Addr) (d : Byte) : decode v (busWord a d) = decodeWrite v a d := by
  simp [decode]

/-- `A[15]` is set from 0x8000 on. -/
theorem notSelected_iff (a : Addr) : notSelected a = decide (0x8000 ≤ a.toNat) := by
  have ha := a.isLt
  simp only [notSelected, BitVec.getLsbD, Nat.testBit_eq_decide_div_mod_eq]
  congr 1
  apply propext
  omega

/-- The bucket is the address in units of 0x1000. -/
theorem bucketOf_eq (a : Addr) : bucketOf a = a.toNat / 0x1000 % 8 := by
  simp [bucketOf, BitVec.extractLsb'_toNat, Nat.shiftRight_eq_div_pow]

/-- `A[8]` is the gate of MBC2. -/
theorem bitEight_iff (a : Addr) : bitEight a = decide (Machine.gateOpen a) := by
  simp only [bitEight, BitVec.getLsbD, Nat.testBit_eq_decide_div_mod_eq]

/-- An operand field is the data byte reduced to the field's width. -/
theorem lowField_eq (n : Nat) (d : Byte) : lowField n d = BitVec.ofNat n d.toNat := by
  apply BitVec.eq_of_toNat_eq
  simp [lowField, BitVec.extractLsb'_toNat]

end Sys2Proof
end

