-- ==== Sys2Proof/Laws/Memory.lean ====
section
/-! SUPPORT. The laws of the two buffers: a read after a write, a write elsewhere, and that every operation on a buffer keeps its
canonical form. -/

namespace Sys2Proof.Machine

/-! ### Lookup -/

theorem Memory.lookup_insert (m : List Host.Cell) (a : Nat) (v : Byte) (b : Nat) :
    Memory.lookup (Memory.insert m a v) b = if a = b then some v else Memory.lookup m b := by
  induction m with
  | nil => simp [Memory.insert, Memory.lookup]
  | cons c m ih =>
    simp only [Memory.insert]
    split
    · simp [Memory.lookup]
    · split
      · rename_i h; subst h; simp only [Memory.lookup]; split <;> simp_all
      · simp only [Memory.lookup, ih]
        split <;> split <;> simp_all

/-- In a buffer in rising order nothing below the first cell is listed. -/
theorem Memory.lookup_eq_none_of_lt {m : List Host.Cell} {a : Nat} (h : ∀ c ∈ m, a < c.1) :
    Memory.lookup m a = none := by
  induction m with
  | nil => rfl
  | cons c m ih =>
    have hc := h c (by simp)
    simp only [Memory.lookup, if_neg (Nat.ne_of_gt hc)]
    exact ih fun d hd => h d (by simp [hd])

theorem Memory.lookup_erase {m : List Host.Cell} (hm : m.Pairwise (fun c d => c.1 < d.1)) (a b : Nat) :
    Memory.lookup (Memory.erase m a) b = if a = b then none else Memory.lookup m b := by
  induction m with
  | nil => simp [Memory.erase, Memory.lookup]
  | cons c m ih =>
    rw [List.pairwise_cons] at hm
    simp only [Memory.erase]
    split
    · rename_i h
      subst h
      by_cases hb : c.1 = b
      · subst hb; simp [Memory.lookup_eq_none_of_lt hm.1]
      · simp [Memory.lookup, hb]
    · simp only [Memory.lookup, ih hm.2]
      split <;> split <;> simp_all

/-! ### Reads after writes -/

/-- The byte written is the byte read. -/
theorem Memory.read_write_same {sp : Space} {m : List Host.Cell} (hm : Memory.wf sp m) (a : Nat) (v : Byte) :
    Memory.read sp (Memory.write sp m a v) a = some v := by
  by_cases h : Memory.unlisted sp = some v
  · simp [Memory.write, Memory.read, h, Memory.lookup_erase hm.1]
  · simp [Memory.write, Memory.read, h, Memory.lookup_insert]

/-- Every other byte reads as before. -/
theorem Memory.read_write_other {sp : Space} {m : List Host.Cell} (hm : Memory.wf sp m) {a b : Nat} (h : a ≠ b) (v : Byte) :
    Memory.read sp (Memory.write sp m a v) b = Memory.read sp m b := by
  by_cases hv : Memory.unlisted sp = some v
  · simp [Memory.write, Memory.read, hv, Memory.lookup_erase hm.1, h]
  · simp [Memory.write, Memory.read, hv, Memory.lookup_insert, h]

/-! ### The canonical form is kept -/

theorem Memory.mem_insert {m : List Host.Cell} {a : Nat} {v : Byte} {c : Host.Cell} (h : c ∈ Memory.insert m a v) :
    c = (a, v) ∨ c ∈ m := by
  induction m with
  | nil => simpa [Memory.insert] using h
  | cons d m ih =>
    simp only [Memory.insert] at h
    split at h
    · simpa using h
    · split at h
      · rcases List.mem_cons.1 h with h | h <;> simp [h]
      · rcases List.mem_cons.1 h with h | h
        · simp [h]
        · rcases ih h with h | h <;> simp [h]

theorem Memory.mem_erase {m : List Host.Cell} {a : Nat} {c : Host.Cell} (h : c ∈ Memory.erase m a) : c ∈ m := by
  induction m with
  | nil => simp [Memory.erase] at h
  | cons d m ih =>
    simp only [Memory.erase] at h
    split at h
    · simp [h]
    · rcases List.mem_cons.1 h with h | h
      · simp [h]
      · simp [ih h]

theorem Memory.insert_rising {m : List Host.Cell} (hm : m.Pairwise (fun c d => c.1 < d.1)) (a : Nat) (v : Byte) :
    (Memory.insert m a v).Pairwise (fun c d => c.1 < d.1) := by
  induction m with
  | nil => simp [Memory.insert]
  | cons c m ih =>
    have hc := List.pairwise_cons.1 hm
    simp only [Memory.insert]
    split
    · rename_i h
      refine List.pairwise_cons.2 ⟨fun d hd => ?_, hm⟩
      rcases List.mem_cons.1 hd with rfl | hd
      · exact h
      · exact Nat.lt_trans h (hc.1 d hd)
    · split
      · rename_i h
        exact List.pairwise_cons.2 ⟨fun d hd => by simpa [h] using hc.1 d hd, hc.2⟩
      · refine List.pairwise_cons.2 ⟨fun d hd => ?_, ih hc.2⟩
        rcases Memory.mem_insert hd with rfl | hd
        · show c.1 < a
          omega
        · exact hc.1 d hd

theorem Memory.erase_rising {m : List Host.Cell} (hm : m.Pairwise (fun c d => c.1 < d.1)) (a : Nat) :
    (Memory.erase m a).Pairwise (fun c d => c.1 < d.1) := by
  induction m with
  | nil => simp [Memory.erase]
  | cons c m ih =>
    have hc := List.pairwise_cons.1 hm
    simp only [Memory.erase]
    split
    · exact hc.2
    · exact List.pairwise_cons.2 ⟨fun d hd => hc.1 d (Memory.mem_erase hd), ih hc.2⟩

theorem Memory.wf_nil (sp : Space) : Memory.wf sp [] :=
  ⟨List.Pairwise.nil, fun _ h => nomatch h⟩

/-- A write keeps the canonical form. -/
theorem Memory.write_wf {sp : Space} {m : List Host.Cell} (hm : Memory.wf sp m) (a : Nat) (v : Byte) :
    Memory.wf sp (Memory.write sp m a v) := by
  unfold Memory.write
  split
  · exact ⟨Memory.erase_rising hm.1 a, fun c hc => hm.2 c (Memory.mem_erase hc)⟩
  · rename_i h
    refine ⟨Memory.insert_rising hm.1 a v, fun c hc => ?_⟩
    rcases Memory.mem_insert hc with rfl | hc
    · exact h
    · exact hm.2 c hc

/-! ### A buffer filled from an image -/

/-- A buffer filled from an image is in canonical form, whatever the image lists. -/
theorem Memory.fillRom_wf (bytes : List Host.Cell) (limit : Nat) : Memory.wf .rom (Memory.fillRom bytes limit) := by
  induction bytes with
  | nil => exact Memory.wf_nil .rom
  | cons c bytes ih =>
    simp only [Memory.fillRom, List.foldr_cons]
    split
    · exact Memory.write_wf ih c.1 c.2
    · exact ih

/-- Every byte of it: the image's below the limit, 0xFF from there. -/
theorem Memory.read_fillRom (bytes : List Host.Cell) (limit a : Nat) :
    Memory.read .rom (Memory.fillRom bytes limit) a =
      some (if a < limit then (Memory.lookup bytes a).getD 0xFF else 0xFF) := by
  induction bytes with
  | nil => simp [Memory.fillRom, Memory.read, Memory.lookup, Memory.unlisted]
  | cons c bytes ih =>
    have hw := Memory.fillRom_wf bytes limit
    have hstep : Memory.fillRom (c :: bytes) limit =
        if c.1 < limit then Memory.write .rom (Memory.fillRom bytes limit) c.1 c.2 else Memory.fillRom bytes limit := rfl
    rw [hstep, Memory.lookup]
    by_cases hc : c.1 = a
    · subst hc
      by_cases hl : c.1 < limit
      · simp [hl, Memory.read_write_same hw]
      · simp [hl, ih]
    · rw [if_neg hc, ← ih]
      split
      · exact Memory.read_write_other hw hc c.2
      · rfl

end Sys2Proof.Machine
end

