-- ==== Sys2Proof/Laws/State.lean ====
section
/-! SUPPORT. One lemma per field per setter of State, so that no later proof unfolds a record update. -/

namespace Sys2Proof.Machine

/-! `State.setCartridgeActive` -/

@[simp] theorem State.setCartridgeActive_cartridgeActive (x : Bool) (s : State) : (s.setCartridgeActive x).cartridgeActive = x := rfl
@[simp] theorem State.setCartridgeActive_straps (x : Bool) (s : State) : (s.setCartridgeActive x).straps = s.straps := rfl
@[simp] theorem State.setCartridgeActive_romBankSelect (x : Bool) (s : State) : (s.setCartridgeActive x).romBankSelect = s.romBankSelect := rfl
@[simp] theorem State.setCartridgeActive_ramBankSelect (x : Bool) (s : State) : (s.setCartridgeActive x).ramBankSelect = s.ramBankSelect := rfl
@[simp] theorem State.setCartridgeActive_ramEnabled (x : Bool) (s : State) : (s.setCartridgeActive x).ramEnabled = s.ramEnabled := rfl
@[simp] theorem State.setCartridgeActive_bankingMode (x : Bool) (s : State) : (s.setCartridgeActive x).bankingMode = s.bankingMode := rfl
@[simp] theorem State.setCartridgeActive_romBank (x : Bool) (s : State) : (s.setCartridgeActive x).romBank = s.romBank := rfl
@[simp] theorem State.setCartridgeActive_rom0Window (x : Bool) (s : State) : (s.setCartridgeActive x).rom0Window = s.rom0Window := rfl
@[simp] theorem State.setCartridgeActive_ramVis (x : Bool) (s : State) : (s.setCartridgeActive x).ramVis = s.ramVis := rfl
@[simp] theorem State.setCartridgeActive_rtcIssued (x : Bool) (s : State) : (s.setCartridgeActive x).rtcIssued = s.rtcIssued := rfl
@[simp] theorem State.setCartridgeActive_rtc (x : Bool) (s : State) : (s.setCartridgeActive x).rtc = s.rtc := rfl
@[simp] theorem State.setCartridgeActive_workRamBanks (x : Bool) (s : State) : (s.setCartridgeActive x).workRamBanks = s.workRamBanks := rfl
@[simp] theorem State.setCartridgeActive_rom (x : Bool) (s : State) : (s.setCartridgeActive x).rom = s.rom := rfl
@[simp] theorem State.setCartridgeActive_ram (x : Bool) (s : State) : (s.setCartridgeActive x).ram = s.ram := rfl
@[simp] theorem State.setCartridgeActive_buffersIntact (x : Bool) (s : State) : (s.setCartridgeActive x).buffersIntact = s.buffersIntact := rfl
@[simp] theorem State.setCartridgeActive_reply (x : Bool) (s : State) : (s.setCartridgeActive x).reply = s.reply := rfl
@[simp] theorem State.setCartridgeActive_captures (x : Bool) (s : State) : (s.setCartridgeActive x).captures = s.captures := rfl
@[simp] theorem State.setCartridgeActive_pending (x : Bool) (s : State) : (s.setCartridgeActive x).pending = s.pending := rfl

/-! `State.setStraps` -/

@[simp] theorem State.setStraps_cartridgeActive (x : Straps) (s : State) : (s.setStraps x).cartridgeActive = s.cartridgeActive := rfl
@[simp] theorem State.setStraps_straps (x : Straps) (s : State) : (s.setStraps x).straps = x := rfl
@[simp] theorem State.setStraps_romBankSelect (x : Straps) (s : State) : (s.setStraps x).romBankSelect = s.romBankSelect := rfl
@[simp] theorem State.setStraps_ramBankSelect (x : Straps) (s : State) : (s.setStraps x).ramBankSelect = s.ramBankSelect := rfl
@[simp] theorem State.setStraps_ramEnabled (x : Straps) (s : State) : (s.setStraps x).ramEnabled = s.ramEnabled := rfl
@[simp] theorem State.setStraps_bankingMode (x : Straps) (s : State) : (s.setStraps x).bankingMode = s.bankingMode := rfl
@[simp] theorem State.setStraps_romBank (x : Straps) (s : State) : (s.setStraps x).romBank = s.romBank := rfl
@[simp] theorem State.setStraps_rom0Window (x : Straps) (s : State) : (s.setStraps x).rom0Window = s.rom0Window := rfl
@[simp] theorem State.setStraps_ramVis (x : Straps) (s : State) : (s.setStraps x).ramVis = s.ramVis := rfl
@[simp] theorem State.setStraps_rtcIssued (x : Straps) (s : State) : (s.setStraps x).rtcIssued = s.rtcIssued := rfl
@[simp] theorem State.setStraps_rtc (x : Straps) (s : State) : (s.setStraps x).rtc = s.rtc := rfl
@[simp] theorem State.setStraps_workRamBanks (x : Straps) (s : State) : (s.setStraps x).workRamBanks = s.workRamBanks := rfl
@[simp] theorem State.setStraps_rom (x : Straps) (s : State) : (s.setStraps x).rom = s.rom := rfl
@[simp] theorem State.setStraps_ram (x : Straps) (s : State) : (s.setStraps x).ram = s.ram := rfl
@[simp] theorem State.setStraps_buffersIntact (x : Straps) (s : State) : (s.setStraps x).buffersIntact = s.buffersIntact := rfl
@[simp] theorem State.setStraps_reply (x : Straps) (s : State) : (s.setStraps x).reply = s.reply := rfl
@[simp] theorem State.setStraps_captures (x : Straps) (s : State) : (s.setStraps x).captures = s.captures := rfl
@[simp] theorem State.setStraps_pending (x : Straps) (s : State) : (s.setStraps x).pending = s.pending := rfl

/-! `State.setRomBankSelect` -/

@[simp] theorem State.setRomBankSelect_cartridgeActive (x : BitVec 9) (s : State) : (s.setRomBankSelect x).cartridgeActive = s.cartridgeActive := rfl
@[simp] theorem State.setRomBankSelect_straps (x : BitVec 9) (s : State) : (s.setRomBankSelect x).straps = s.straps := rfl
@[simp] theorem State.setRomBankSelect_romBankSelect (x : BitVec 9) (s : State) : (s.setRomBankSelect x).romBankSelect = x := rfl
@[simp] theorem State.setRomBankSelect_ramBankSelect (x : BitVec 9) (s : State) : (s.setRomBankSelect x).ramBankSelect = s.ramBankSelect := rfl
@[simp] theorem State.setRomBankSelect_ramEnabled (x : BitVec 9) (s : State) : (s.setRomBankSelect x).ramEnabled = s.ramEnabled := rfl
@[simp] theorem State.setRomBankSelect_bankingMode (x : BitVec 9) (s : State) : (s.setRomBankSelect x).bankingMode = s.bankingMode := rfl
@[simp] theorem State.setRomBankSelect_romBank (x : BitVec 9) (s : State) : (s.setRomBankSelect x).romBank = s.romBank := rfl
@[simp] theorem State.setRomBankSelect_rom0Window (x : BitVec 9) (s : State) : (s.setRomBankSelect x).rom0Window = s.rom0Window := rfl
@[simp] theorem State.setRomBankSelect_ramVis (x : BitVec 9) (s : State) : (s.setRomBankSelect x).ramVis = s.ramVis := rfl
@[simp] theorem State.setRomBankSelect_rtcIssued (x : BitVec 9) (s : State) : (s.setRomBankSelect x).rtcIssued = s.rtcIssued := rfl
@[simp] theorem State.setRomBankSelect_rtc (x : BitVec 9) (s : State) : (s.setRomBankSelect x).rtc = s.rtc := rfl
@[simp] theorem State.setRomBankSelect_workRamBanks (x : BitVec 9) (s : State) : (s.setRomBankSelect x).workRamBanks = s.workRamBanks := rfl
@[simp] theorem State.setRomBankSelect_rom (x : BitVec 9) (s : State) : (s.setRomBankSelect x).rom = s.rom := rfl
@[simp] theorem State.setRomBankSelect_ram (x : BitVec 9) (s : State) : (s.setRomBankSelect x).ram = s.ram := rfl
@[simp] theorem State.setRomBankSelect_buffersIntact (x : BitVec 9) (s : State) : (s.setRomBankSelect x).buffersIntact = s.buffersIntact := rfl
@[simp] theorem State.setRomBankSelect_reply (x : BitVec 9) (s : State) : (s.setRomBankSelect x).reply = s.reply := rfl
@[simp] theorem State.setRomBankSelect_captures (x : BitVec 9) (s : State) : (s.setRomBankSelect x).captures = s.captures := rfl
@[simp] theorem State.setRomBankSelect_pending (x : BitVec 9) (s : State) : (s.setRomBankSelect x).pending = s.pending := rfl

/-! `State.setRamBankSelect` -/

@[simp] theorem State.setRamBankSelect_cartridgeActive (x : BitVec 4) (s : State) : (s.setRamBankSelect x).cartridgeActive = s.cartridgeActive := rfl
@[simp] theorem State.setRamBankSelect_straps (x : BitVec 4) (s : State) : (s.setRamBankSelect x).straps = s.straps := rfl
@[simp] theorem State.setRamBankSelect_romBankSelect (x : BitVec 4) (s : State) : (s.setRamBankSelect x).romBankSelect = s.romBankSelect := rfl
@[simp] theorem State.setRamBankSelect_ramBankSelect (x : BitVec 4) (s : State) : (s.setRamBankSelect x).ramBankSelect = x := rfl
@[simp] theorem State.setRamBankSelect_ramEnabled (x : BitVec 4) (s : State) : (s.setRamBankSelect x).ramEnabled = s.ramEnabled := rfl
@[simp] theorem State.setRamBankSelect_bankingMode (x : BitVec 4) (s : State) : (s.setRamBankSelect x).bankingMode = s.bankingMode := rfl
@[simp] theorem State.setRamBankSelect_romBank (x : BitVec 4) (s : State) : (s.setRamBankSelect x).romBank = s.romBank := rfl
@[simp] theorem State.setRamBankSelect_rom0Window (x : BitVec 4) (s : State) : (s.setRamBankSelect x).rom0Window = s.rom0Window := rfl
@[simp] theorem State.setRamBankSelect_ramVis (x : BitVec 4) (s : State) : (s.setRamBankSelect x).ramVis = s.ramVis := rfl
@[simp] theorem State.setRamBankSelect_rtcIssued (x : BitVec 4) (s : State) : (s.setRamBankSelect x).rtcIssued = s.rtcIssued := rfl
@[simp] theorem State.setRamBankSelect_rtc (x : BitVec 4) (s : State) : (s.setRamBankSelect x).rtc = s.rtc := rfl
@[simp] theorem State.setRamBankSelect_workRamBanks (x : BitVec 4) (s : State) : (s.setRamBankSelect x).workRamBanks = s.workRamBanks := rfl
@[simp] theorem State.setRamBankSelect_rom (x : BitVec 4) (s : State) : (s.setRamBankSelect x).rom = s.rom := rfl
@[simp] theorem State.setRamBankSelect_ram (x : BitVec 4) (s : State) : (s.setRamBankSelect x).ram = s.ram := rfl
@[simp] theorem State.setRamBankSelect_buffersIntact (x : BitVec 4) (s : State) : (s.setRamBankSelect x).buffersIntact = s.buffersIntact := rfl
@[simp] theorem State.setRamBankSelect_reply (x : BitVec 4) (s : State) : (s.setRamBankSelect x).reply = s.reply := rfl
@[simp] theorem State.setRamBankSelect_captures (x : BitVec 4) (s : State) : (s.setRamBankSelect x).captures = s.captures := rfl
@[simp] theorem State.setRamBankSelect_pending (x : BitVec 4) (s : State) : (s.setRamBankSelect x).pending = s.pending := rfl

/-! `State.setRamEnabled` -/

@[simp] theorem State.setRamEnabled_cartridgeActive (x : Bool) (s : State) : (s.setRamEnabled x).cartridgeActive = s.cartridgeActive := rfl
@[simp] theorem State.setRamEnabled_straps (x : Bool) (s : State) : (s.setRamEnabled x).straps = s.straps := rfl
@[simp] theorem State.setRamEnabled_romBankSelect (x : Bool) (s : State) : (s.setRamEnabled x).romBankSelect = s.romBankSelect := rfl
@[simp] theorem State.setRamEnabled_ramBankSelect (x : Bool) (s : State) : (s.setRamEnabled x).ramBankSelect = s.ramBankSelect := rfl
@[simp] theorem State.setRamEnabled_ramEnabled (x : Bool) (s : State) : (s.setRamEnabled x).ramEnabled = x := rfl
@[simp] theorem State.setRamEnabled_bankingMode (x : Bool) (s : State) : (s.setRamEnabled x).bankingMode = s.bankingMode := rfl
@[simp] theorem State.setRamEnabled_romBank (x : Bool) (s : State) : (s.setRamEnabled x).romBank = s.romBank := rfl
@[simp] theorem State.setRamEnabled_rom0Window (x : Bool) (s : State) : (s.setRamEnabled x).rom0Window = s.rom0Window := rfl
@[simp] theorem State.setRamEnabled_ramVis (x : Bool) (s : State) : (s.setRamEnabled x).ramVis = s.ramVis := rfl
@[simp] theorem State.setRamEnabled_rtcIssued (x : Bool) (s : State) : (s.setRamEnabled x).rtcIssued = s.rtcIssued := rfl
@[simp] theorem State.setRamEnabled_rtc (x : Bool) (s : State) : (s.setRamEnabled x).rtc = s.rtc := rfl
@[simp] theorem State.setRamEnabled_workRamBanks (x : Bool) (s : State) : (s.setRamEnabled x).workRamBanks = s.workRamBanks := rfl
@[simp] theorem State.setRamEnabled_rom (x : Bool) (s : State) : (s.setRamEnabled x).rom = s.rom := rfl
@[simp] theorem State.setRamEnabled_ram (x : Bool) (s : State) : (s.setRamEnabled x).ram = s.ram := rfl
@[simp] theorem State.setRamEnabled_buffersIntact (x : Bool) (s : State) : (s.setRamEnabled x).buffersIntact = s.buffersIntact := rfl
@[simp] theorem State.setRamEnabled_reply (x : Bool) (s : State) : (s.setRamEnabled x).reply = s.reply := rfl
@[simp] theorem State.setRamEnabled_captures (x : Bool) (s : State) : (s.setRamEnabled x).captures = s.captures := rfl
@[simp] theorem State.setRamEnabled_pending (x : Bool) (s : State) : (s.setRamEnabled x).pending = s.pending := rfl

/-! `State.setBankingMode` -/

@[simp] theorem State.setBankingMode_cartridgeActive (x : Bool) (s : State) : (s.setBankingMode x).cartridgeActive = s.cartridgeActive := rfl
@[simp] theorem State.setBankingMode_straps (x : Bool) (s : State) : (s.setBankingMode x).straps = s.straps := rfl
@[simp] theorem State.setBankingMode_romBankSelect (x : Bool) (s : State) : (s.setBankingMode x).romBankSelect = s.romBankSelect := rfl
@[simp] theorem State.setBankingMode_ramBankSelect (x : Bool) (s : State) : (s.setBankingMode x).ramBankSelect = s.ramBankSelect := rfl
@[simp] theorem State.setBankingMode_ramEnabled (x : Bool) (s : State) : (s.setBankingMode x).ramEnabled = s.ramEnabled := rfl
@[simp] theorem State.setBankingMode_bankingMode (x : Bool) (s : State) : (s.setBankingMode x).bankingMode = x := rfl
@[simp] theorem State.setBankingMode_romBank (x : Bool) (s : State) : (s.setBankingMode x).romBank = s.romBank := rfl
@[simp] theorem State.setBankingMode_rom0Window (x : Bool) (s : State) : (s.setBankingMode x).rom0Window = s.rom0Window := rfl
@[simp] theorem State.setBankingMode_ramVis (x : Bool) (s : State) : (s.setBankingMode x).ramVis = s.ramVis := rfl
@[simp] theorem State.setBankingMode_rtcIssued (x : Bool) (s : State) : (s.setBankingMode x).rtcIssued = s.rtcIssued := rfl
@[simp] theorem State.setBankingMode_rtc (x : Bool) (s : State) : (s.setBankingMode x).rtc = s.rtc := rfl
@[simp] theorem State.setBankingMode_workRamBanks (x : Bool) (s : State) : (s.setBankingMode x).workRamBanks = s.workRamBanks := rfl
@[simp] theorem State.setBankingMode_rom (x : Bool) (s : State) : (s.setBankingMode x).rom = s.rom := rfl
@[simp] theorem State.setBankingMode_ram (x : Bool) (s : State) : (s.setBankingMode x).ram = s.ram := rfl
@[simp] theorem State.setBankingMode_buffersIntact (x : Bool) (s : State) : (s.setBankingMode x).buffersIntact = s.buffersIntact := rfl
@[simp] theorem State.setBankingMode_reply (x : Bool) (s : State) : (s.setBankingMode x).reply = s.reply := rfl
@[simp] theorem State.setBankingMode_captures (x : Bool) (s : State) : (s.setBankingMode x).captures = s.captures := rfl
@[simp] theorem State.setBankingMode_pending (x : Bool) (s : State) : (s.setBankingMode x).pending = s.pending := rfl

/-! `State.setRomBank` -/

@[simp] theorem State.setRomBank_cartridgeActive (x : Nat) (s : State) : (s.setRomBank x).cartridgeActive = s.cartridgeActive := rfl
@[simp] theorem State.setRomBank_straps (x : Nat) (s : State) : (s.setRomBank x).straps = s.straps := rfl
@[simp] theorem State.setRomBank_romBankSelect (x : Nat) (s : State) : (s.setRomBank x).romBankSelect = s.romBankSelect := rfl
@[simp] theorem State.setRomBank_ramBankSelect (x : Nat) (s : State) : (s.setRomBank x).ramBankSelect = s.ramBankSelect := rfl
@[simp] theorem State.setRomBank_ramEnabled (x : Nat) (s : State) : (s.setRomBank x).ramEnabled = s.ramEnabled := rfl
@[simp] theorem State.setRomBank_bankingMode (x : Nat) (s : State) : (s.setRomBank x).bankingMode = s.bankingMode := rfl
@[simp] theorem State.setRomBank_romBank (x : Nat) (s : State) : (s.setRomBank x).romBank = x := rfl
@[simp] theorem State.setRomBank_rom0Window (x : Nat) (s : State) : (s.setRomBank x).rom0Window = s.rom0Window := rfl
@[simp] theorem State.setRomBank_ramVis (x : Nat) (s : State) : (s.setRomBank x).ramVis = s.ramVis := rfl
@[simp] theorem State.setRomBank_rtcIssued (x : Nat) (s : State) : (s.setRomBank x).rtcIssued = s.rtcIssued := rfl
@[simp] theorem State.setRomBank_rtc (x : Nat) (s : State) : (s.setRomBank x).rtc = s.rtc := rfl
@[simp] theorem State.setRomBank_workRamBanks (x : Nat) (s : State) : (s.setRomBank x).workRamBanks = s.workRamBanks := rfl
@[simp] theorem State.setRomBank_rom (x : Nat) (s : State) : (s.setRomBank x).rom = s.rom := rfl
@[simp] theorem State.setRomBank_ram (x : Nat) (s : State) : (s.setRomBank x).ram = s.ram := rfl
@[simp] theorem State.setRomBank_buffersIntact (x : Nat) (s : State) : (s.setRomBank x).buffersIntact = s.buffersIntact := rfl
@[simp] theorem State.setRomBank_reply (x : Nat) (s : State) : (s.setRomBank x).reply = s.reply := rfl
@[simp] theorem State.setRomBank_captures (x : Nat) (s : State) : (s.setRomBank x).captures = s.captures := rfl
@[simp] theorem State.setRomBank_pending (x : Nat) (s : State) : (s.setRomBank x).pending = s.pending := rfl

/-! `State.setRomBank0` -/

@[simp] theorem State.setRomBank0_cartridgeActive (x : Nat) (s : State) : (s.setRomBank0 x).cartridgeActive = s.cartridgeActive := rfl
@[simp] theorem State.setRomBank0_straps (x : Nat) (s : State) : (s.setRomBank0 x).straps = s.straps := rfl
@[simp] theorem State.setRomBank0_romBankSelect (x : Nat) (s : State) : (s.setRomBank0 x).romBankSelect = s.romBankSelect := rfl
@[simp] theorem State.setRomBank0_ramBankSelect (x : Nat) (s : State) : (s.setRomBank0 x).ramBankSelect = s.ramBankSelect := rfl
@[simp] theorem State.setRomBank0_ramEnabled (x : Nat) (s : State) : (s.setRomBank0 x).ramEnabled = s.ramEnabled := rfl
@[simp] theorem State.setRomBank0_bankingMode (x : Nat) (s : State) : (s.setRomBank0 x).bankingMode = s.bankingMode := rfl
@[simp] theorem State.setRomBank0_romBank (x : Nat) (s : State) : (s.setRomBank0 x).romBank = s.romBank := rfl
@[simp] theorem State.setRomBank0_rom0Window (x : Nat) (s : State) : (s.setRomBank0 x).rom0Window = x := rfl
@[simp] theorem State.setRomBank0_ramVis (x : Nat) (s : State) : (s.setRomBank0 x).ramVis = s.ramVis := rfl
@[simp] theorem State.setRomBank0_rtcIssued (x : Nat) (s : State) : (s.setRomBank0 x).rtcIssued = s.rtcIssued := rfl
@[simp] theorem State.setRomBank0_rtc (x : Nat) (s : State) : (s.setRomBank0 x).rtc = s.rtc := rfl
@[simp] theorem State.setRomBank0_workRamBanks (x : Nat) (s : State) : (s.setRomBank0 x).workRamBanks = s.workRamBanks := rfl
@[simp] theorem State.setRomBank0_rom (x : Nat) (s : State) : (s.setRomBank0 x).rom = s.rom := rfl
@[simp] theorem State.setRomBank0_ram (x : Nat) (s : State) : (s.setRomBank0 x).ram = s.ram := rfl
@[simp] theorem State.setRomBank0_buffersIntact (x : Nat) (s : State) : (s.setRomBank0 x).buffersIntact = s.buffersIntact := rfl
@[simp] theorem State.setRomBank0_reply (x : Nat) (s : State) : (s.setRomBank0 x).reply = s.reply := rfl
@[simp] theorem State.setRomBank0_captures (x : Nat) (s : State) : (s.setRomBank0 x).captures = s.captures := rfl
@[simp] theorem State.setRomBank0_pending (x : Nat) (s : State) : (s.setRomBank0 x).pending = s.pending := rfl

/-! `State.setRamBank` -/

@[simp] theorem State.setRamBank_cartridgeActive (x : RamVis) (s : State) : (s.setRamBank x).cartridgeActive = s.cartridgeActive := rfl
@[simp] theorem State.setRamBank_straps (x : RamVis) (s : State) : (s.setRamBank x).straps = s.straps := rfl
@[simp] theorem State.setRamBank_romBankSelect (x : RamVis) (s : State) : (s.setRamBank x).romBankSelect = s.romBankSelect := rfl
@[simp] theorem State.setRamBank_ramBankSelect (x : RamVis) (s : State) : (s.setRamBank x).ramBankSelect = s.ramBankSelect := rfl
@[simp] theorem State.setRamBank_ramEnabled (x : RamVis) (s : State) : (s.setRamBank x).ramEnabled = s.ramEnabled := rfl
@[simp] theorem State.setRamBank_bankingMode (x : RamVis) (s : State) : (s.setRamBank x).bankingMode = s.bankingMode := rfl
@[simp] theorem State.setRamBank_romBank (x : RamVis) (s : State) : (s.setRamBank x).romBank = s.romBank := rfl
@[simp] theorem State.setRamBank_rom0Window (x : RamVis) (s : State) : (s.setRamBank x).rom0Window = s.rom0Window := rfl
@[simp] theorem State.setRamBank_ramVis (x : RamVis) (s : State) : (s.setRamBank x).ramVis = x := rfl
@[simp] theorem State.setRamBank_rtcIssued (x : RamVis) (s : State) : (s.setRamBank x).rtcIssued = s.rtcIssued := rfl
@[simp] theorem State.setRamBank_rtc (x : RamVis) (s : State) : (s.setRamBank x).rtc = s.rtc := rfl
@[simp] theorem State.setRamBank_workRamBanks (x : RamVis) (s : State) : (s.setRamBank x).workRamBanks = s.workRamBanks := rfl
@[simp] theorem State.setRamBank_rom (x : RamVis) (s : State) : (s.setRamBank x).rom = s.rom := rfl
@[simp] theorem State.setRamBank_ram (x : RamVis) (s : State) : (s.setRamBank x).ram = s.ram := rfl
@[simp] theorem State.setRamBank_buffersIntact (x : RamVis) (s : State) : (s.setRamBank x).buffersIntact = s.buffersIntact := rfl
@[simp] theorem State.setRamBank_reply (x : RamVis) (s : State) : (s.setRamBank x).reply = s.reply := rfl
@[simp] theorem State.setRamBank_captures (x : RamVis) (s : State) : (s.setRamBank x).captures = s.captures := rfl
@[simp] theorem State.setRamBank_pending (x : RamVis) (s : State) : (s.setRamBank x).pending = s.pending := rfl

/-! `State.setRtcIssued` -/

@[simp] theorem State.setRtcIssued_cartridgeActive (x : List RtcCommand) (s : State) : (s.setRtcIssued x).cartridgeActive = s.cartridgeActive := rfl
@[simp] theorem State.setRtcIssued_straps (x : List RtcCommand) (s : State) : (s.setRtcIssued x).straps = s.straps := rfl
@[simp] theorem State.setRtcIssued_romBankSelect (x : List RtcCommand) (s : State) : (s.setRtcIssued x).romBankSelect = s.romBankSelect := rfl
@[simp] theorem State.setRtcIssued_ramBankSelect (x : List RtcCommand) (s : State) : (s.setRtcIssued x).ramBankSelect = s.ramBankSelect := rfl
@[simp] theorem State.setRtcIssued_ramEnabled (x : List RtcCommand) (s : State) : (s.setRtcIssued x).ramEnabled = s.ramEnabled := rfl
@[simp] theorem State.setRtcIssued_bankingMode (x : List RtcCommand) (s : State) : (s.setRtcIssued x).bankingMode = s.bankingMode := rfl
@[simp] theorem State.setRtcIssued_romBank (x : List RtcCommand) (s : State) : (s.setRtcIssued x).romBank = s.romBank := rfl
@[simp] theorem State.setRtcIssued_rom0Window (x : List RtcCommand) (s : State) : (s.setRtcIssued x).rom0Window = s.rom0Window := rfl
@[simp] theorem State.setRtcIssued_ramVis (x : List RtcCommand) (s : State) : (s.setRtcIssued x).ramVis = s.ramVis := rfl
@[simp] theorem State.setRtcIssued_rtcIssued (x : List RtcCommand) (s : State) : (s.setRtcIssued x).rtcIssued = x := rfl
@[simp] theorem State.setRtcIssued_rtc (x : List RtcCommand) (s : State) : (s.setRtcIssued x).rtc = s.rtc := rfl
@[simp] theorem State.setRtcIssued_workRamBanks (x : List RtcCommand) (s : State) : (s.setRtcIssued x).workRamBanks = s.workRamBanks := rfl
@[simp] theorem State.setRtcIssued_rom (x : List RtcCommand) (s : State) : (s.setRtcIssued x).rom = s.rom := rfl
@[simp] theorem State.setRtcIssued_ram (x : List RtcCommand) (s : State) : (s.setRtcIssued x).ram = s.ram := rfl
@[simp] theorem State.setRtcIssued_buffersIntact (x : List RtcCommand) (s : State) : (s.setRtcIssued x).buffersIntact = s.buffersIntact := rfl
@[simp] theorem State.setRtcIssued_reply (x : List RtcCommand) (s : State) : (s.setRtcIssued x).reply = s.reply := rfl
@[simp] theorem State.setRtcIssued_captures (x : List RtcCommand) (s : State) : (s.setRtcIssued x).captures = s.captures := rfl
@[simp] theorem State.setRtcIssued_pending (x : List RtcCommand) (s : State) : (s.setRtcIssued x).pending = s.pending := rfl

/-! `State.setRtc` -/

@[simp] theorem State.setRtc_cartridgeActive (x : RtcPort) (s : State) : (s.setRtc x).cartridgeActive = s.cartridgeActive := rfl
@[simp] theorem State.setRtc_straps (x : RtcPort) (s : State) : (s.setRtc x).straps = s.straps := rfl
@[simp] theorem State.setRtc_romBankSelect (x : RtcPort) (s : State) : (s.setRtc x).romBankSelect = s.romBankSelect := rfl
@[simp] theorem State.setRtc_ramBankSelect (x : RtcPort) (s : State) : (s.setRtc x).ramBankSelect = s.ramBankSelect := rfl
@[simp] theorem State.setRtc_ramEnabled (x : RtcPort) (s : State) : (s.setRtc x).ramEnabled = s.ramEnabled := rfl
@[simp] theorem State.setRtc_bankingMode (x : RtcPort) (s : State) : (s.setRtc x).bankingMode = s.bankingMode := rfl
@[simp] theorem State.setRtc_romBank (x : RtcPort) (s : State) : (s.setRtc x).romBank = s.romBank := rfl
@[simp] theorem State.setRtc_rom0Window (x : RtcPort) (s : State) : (s.setRtc x).rom0Window = s.rom0Window := rfl
@[simp] theorem State.setRtc_ramVis (x : RtcPort) (s : State) : (s.setRtc x).ramVis = s.ramVis := rfl
@[simp] theorem State.setRtc_rtcIssued (x : RtcPort) (s : State) : (s.setRtc x).rtcIssued = s.rtcIssued := rfl
@[simp] theorem State.setRtc_rtc (x : RtcPort) (s : State) : (s.setRtc x).rtc = x := rfl
@[simp] theorem State.setRtc_workRamBanks (x : RtcPort) (s : State) : (s.setRtc x).workRamBanks = s.workRamBanks := rfl
@[simp] theorem State.setRtc_rom (x : RtcPort) (s : State) : (s.setRtc x).rom = s.rom := rfl
@[simp] theorem State.setRtc_ram (x : RtcPort) (s : State) : (s.setRtc x).ram = s.ram := rfl
@[simp] theorem State.setRtc_buffersIntact (x : RtcPort) (s : State) : (s.setRtc x).buffersIntact = s.buffersIntact := rfl
@[simp] theorem State.setRtc_reply (x : RtcPort) (s : State) : (s.setRtc x).reply = s.reply := rfl
@[simp] theorem State.setRtc_captures (x : RtcPort) (s : State) : (s.setRtc x).captures = s.captures := rfl
@[simp] theorem State.setRtc_pending (x : RtcPort) (s : State) : (s.setRtc x).pending = s.pending := rfl

/-! `State.setWorkRamBanks` -/

@[simp] theorem State.setWorkRamBanks_cartridgeActive (x : Nat) (s : State) : (s.setWorkRamBanks x).cartridgeActive = s.cartridgeActive := rfl
@[simp] theorem State.setWorkRamBanks_straps (x : Nat) (s : State) : (s.setWorkRamBanks x).straps = s.straps := rfl
@[simp] theorem State.setWorkRamBanks_romBankSelect (x : Nat) (s : State) : (s.setWorkRamBanks x).romBankSelect = s.romBankSelect := rfl
@[simp] theorem State.setWorkRamBanks_ramBankSelect (x : Nat) (s : State) : (s.setWorkRamBanks x).ramBankSelect = s.ramBankSelect := rfl
@[simp] theorem State.setWorkRamBanks_ramEnabled (x : Nat) (s : State) : (s.setWorkRamBanks x).ramEnabled = s.ramEnabled := rfl
@[simp] theorem State.setWorkRamBanks_bankingMode (x : Nat) (s : State) : (s.setWorkRamBanks x).bankingMode = s.bankingMode := rfl
@[simp] theorem State.setWorkRamBanks_romBank (x : Nat) (s : State) : (s.setWorkRamBanks x).romBank = s.romBank := rfl
@[simp] theorem State.setWorkRamBanks_rom0Window (x : Nat) (s : State) : (s.setWorkRamBanks x).rom0Window = s.rom0Window := rfl
@[simp] theorem State.setWorkRamBanks_ramVis (x : Nat) (s : State) : (s.setWorkRamBanks x).ramVis = s.ramVis := rfl
@[simp] theorem State.setWorkRamBanks_rtcIssued (x : Nat) (s : State) : (s.setWorkRamBanks x).rtcIssued = s.rtcIssued := rfl
@[simp] theorem State.setWorkRamBanks_rtc (x : Nat) (s : State) : (s.setWorkRamBanks x).rtc = s.rtc := rfl
@[simp] theorem State.setWorkRamBanks_workRamBanks (x : Nat) (s : State) : (s.setWorkRamBanks x).workRamBanks = x := rfl
@[simp] theorem State.setWorkRamBanks_rom (x : Nat) (s : State) : (s.setWorkRamBanks x).rom = s.rom := rfl
@[simp] theorem State.setWorkRamBanks_ram (x : Nat) (s : State) : (s.setWorkRamBanks x).ram = s.ram := rfl
@[simp] theorem State.setWorkRamBanks_buffersIntact (x : Nat) (s : State) : (s.setWorkRamBanks x).buffersIntact = s.buffersIntact := rfl
@[simp] theorem State.setWorkRamBanks_reply (x : Nat) (s : State) : (s.setWorkRamBanks x).reply = s.reply := rfl
@[simp] theorem State.setWorkRamBanks_captures (x : Nat) (s : State) : (s.setWorkRamBanks x).captures = s.captures := rfl
@[simp] theorem State.setWorkRamBanks_pending (x : Nat) (s : State) : (s.setWorkRamBanks x).pending = s.pending := rfl

/-! `State.setRom` -/

@[simp] theorem State.setRom_cartridgeActive (x : List Host.Cell) (s : State) : (s.setRom x).cartridgeActive = s.cartridgeActive := rfl
@[simp] theorem State.setRom_straps (x : List Host.Cell) (s : State) : (s.setRom x).straps = s.straps := rfl
@[simp] theorem State.setRom_romBankSelect (x : List Host.Cell) (s : State) : (s.setRom x).romBankSelect = s.romBankSelect := rfl
@[simp] theorem State.setRom_ramBankSelect (x : List Host.Cell) (s : State) : (s.setRom x).ramBankSelect = s.ramBankSelect := rfl
@[simp] theorem State.setRom_ramEnabled (x : List Host.Cell) (s : State) : (s.setRom x).ramEnabled = s.ramEnabled := rfl
@[simp] theorem State.setRom_bankingMode (x : List Host.Cell) (s : State) : (s.setRom x).bankingMode = s.bankingMode := rfl
@[simp] theorem State.setRom_romBank (x : List Host.Cell) (s : State) : (s.setRom x).romBank = s.romBank := rfl
@[simp] theorem State.setRom_rom0Window (x : List Host.Cell) (s : State) : (s.setRom x).rom0Window = s.rom0Window := rfl
@[simp] theorem State.setRom_ramVis (x : List Host.Cell) (s : State) : (s.setRom x).ramVis = s.ramVis := rfl
@[simp] theorem State.setRom_rtcIssued (x : List Host.Cell) (s : State) : (s.setRom x).rtcIssued = s.rtcIssued := rfl
@[simp] theorem State.setRom_rtc (x : List Host.Cell) (s : State) : (s.setRom x).rtc = s.rtc := rfl
@[simp] theorem State.setRom_workRamBanks (x : List Host.Cell) (s : State) : (s.setRom x).workRamBanks = s.workRamBanks := rfl
@[simp] theorem State.setRom_rom (x : List Host.Cell) (s : State) : (s.setRom x).rom = x := rfl
@[simp] theorem State.setRom_ram (x : List Host.Cell) (s : State) : (s.setRom x).ram = s.ram := rfl
@[simp] theorem State.setRom_buffersIntact (x : List Host.Cell) (s : State) : (s.setRom x).buffersIntact = s.buffersIntact := rfl
@[simp] theorem State.setRom_reply (x : List Host.Cell) (s : State) : (s.setRom x).reply = s.reply := rfl
@[simp] theorem State.setRom_captures (x : List Host.Cell) (s : State) : (s.setRom x).captures = s.captures := rfl
@[simp] theorem State.setRom_pending (x : List Host.Cell) (s : State) : (s.setRom x).pending = s.pending := rfl

/-! `State.setRam` -/

@[simp] theorem State.setRam_cartridgeActive (x : List Host.Cell) (s : State) : (s.setRam x).cartridgeActive = s.cartridgeActive := rfl
@[simp] theorem State.setRam_straps (x : List Host.Cell) (s : State) : (s.setRam x).straps = s.straps := rfl
@[simp] theorem State.setRam_romBankSelect (x : List Host.Cell) (s : State) : (s.setRam x).romBankSelect = s.romBankSelect := rfl
@[simp] theorem State.setRam_ramBankSelect (x : List Host.Cell) (s : State) : (s.setRam x).ramBankSelect = s.ramBankSelect := rfl
@[simp] theorem State.setRam_ramEnabled (x : List Host.Cell) (s : State) : (s.setRam x).ramEnabled = s.ramEnabled := rfl
@[simp] theorem State.setRam_bankingMode (x : List Host.Cell) (s : State) : (s.setRam x).bankingMode = s.bankingMode := rfl
@[simp] theorem State.setRam_romBank (x : List Host.Cell) (s : State) : (s.setRam x).romBank = s.romBank := rfl
@[simp] theorem State.setRam_rom0Window (x : List Host.Cell) (s : State) : (s.setRam x).rom0Window = s.rom0Window := rfl
@[simp] theorem State.setRam_ramVis (x : List Host.Cell) (s : State) : (s.setRam x).ramVis = s.ramVis := rfl
@[simp] theorem State.setRam_rtcIssued (x : List Host.Cell) (s : State) : (s.setRam x).rtcIssued = s.rtcIssued := rfl
@[simp] theorem State.setRam_rtc (x : List Host.Cell) (s : State) : (s.setRam x).rtc = s.rtc := rfl
@[simp] theorem State.setRam_workRamBanks (x : List Host.Cell) (s : State) : (s.setRam x).workRamBanks = s.workRamBanks := rfl
@[simp] theorem State.setRam_rom (x : List Host.Cell) (s : State) : (s.setRam x).rom = s.rom := rfl
@[simp] theorem State.setRam_ram (x : List Host.Cell) (s : State) : (s.setRam x).ram = x := rfl
@[simp] theorem State.setRam_buffersIntact (x : List Host.Cell) (s : State) : (s.setRam x).buffersIntact = s.buffersIntact := rfl
@[simp] theorem State.setRam_reply (x : List Host.Cell) (s : State) : (s.setRam x).reply = s.reply := rfl
@[simp] theorem State.setRam_captures (x : List Host.Cell) (s : State) : (s.setRam x).captures = s.captures := rfl
@[simp] theorem State.setRam_pending (x : List Host.Cell) (s : State) : (s.setRam x).pending = s.pending := rfl

/-! `State.setBuffersIntact` -/

@[simp] theorem State.setBuffersIntact_cartridgeActive (x : Bool) (s : State) : (s.setBuffersIntact x).cartridgeActive = s.cartridgeActive := rfl
@[simp] theorem State.setBuffersIntact_straps (x : Bool) (s : State) : (s.setBuffersIntact x).straps = s.straps := rfl
@[simp] theorem State.setBuffersIntact_romBankSelect (x : Bool) (s : State) : (s.setBuffersIntact x).romBankSelect = s.romBankSelect := rfl
@[simp] theorem State.setBuffersIntact_ramBankSelect (x : Bool) (s : State) : (s.setBuffersIntact x).ramBankSelect = s.ramBankSelect := rfl
@[simp] theorem State.setBuffersIntact_ramEnabled (x : Bool) (s : State) : (s.setBuffersIntact x).ramEnabled = s.ramEnabled := rfl
@[simp] theorem State.setBuffersIntact_bankingMode (x : Bool) (s : State) : (s.setBuffersIntact x).bankingMode = s.bankingMode := rfl
@[simp] theorem State.setBuffersIntact_romBank (x : Bool) (s : State) : (s.setBuffersIntact x).romBank = s.romBank := rfl
@[simp] theorem State.setBuffersIntact_rom0Window (x : Bool) (s : State) : (s.setBuffersIntact x).rom0Window = s.rom0Window := rfl
@[simp] theorem State.setBuffersIntact_ramVis (x : Bool) (s : State) : (s.setBuffersIntact x).ramVis = s.ramVis := rfl
@[simp] theorem State.setBuffersIntact_rtcIssued (x : Bool) (s : State) : (s.setBuffersIntact x).rtcIssued = s.rtcIssued := rfl
@[simp] theorem State.setBuffersIntact_rtc (x : Bool) (s : State) : (s.setBuffersIntact x).rtc = s.rtc := rfl
@[simp] theorem State.setBuffersIntact_workRamBanks (x : Bool) (s : State) : (s.setBuffersIntact x).workRamBanks = s.workRamBanks := rfl
@[simp] theorem State.setBuffersIntact_rom (x : Bool) (s : State) : (s.setBuffersIntact x).rom = s.rom := rfl
@[simp] theorem State.setBuffersIntact_ram (x : Bool) (s : State) : (s.setBuffersIntact x).ram = s.ram := rfl
@[simp] theorem State.setBuffersIntact_buffersIntact (x : Bool) (s : State) : (s.setBuffersIntact x).buffersIntact = x := rfl
@[simp] theorem State.setBuffersIntact_reply (x : Bool) (s : State) : (s.setBuffersIntact x).reply = s.reply := rfl
@[simp] theorem State.setBuffersIntact_captures (x : Bool) (s : State) : (s.setBuffersIntact x).captures = s.captures := rfl
@[simp] theorem State.setBuffersIntact_pending (x : Bool) (s : State) : (s.setBuffersIntact x).pending = s.pending := rfl

/-! `State.setReply` -/

@[simp] theorem State.setReply_cartridgeActive (x : Reply) (s : State) : (s.setReply x).cartridgeActive = s.cartridgeActive := rfl
@[simp] theorem State.setReply_straps (x : Reply) (s : State) : (s.setReply x).straps = s.straps := rfl
@[simp] theorem State.setReply_romBankSelect (x : Reply) (s : State) : (s.setReply x).romBankSelect = s.romBankSelect := rfl
@[simp] theorem State.setReply_ramBankSelect (x : Reply) (s : State) : (s.setReply x).ramBankSelect = s.ramBankSelect := rfl
@[simp] theorem State.setReply_ramEnabled (x : Reply) (s : State) : (s.setReply x).ramEnabled = s.ramEnabled := rfl
@[simp] theorem State.setReply_bankingMode (x : Reply) (s : State) : (s.setReply x).bankingMode = s.bankingMode := rfl
@[simp] theorem State.setReply_romBank (x : Reply) (s : State) : (s.setReply x).romBank = s.romBank := rfl
@[simp] theorem State.setReply_rom0Window (x : Reply) (s : State) : (s.setReply x).rom0Window = s.rom0Window := rfl
@[simp] theorem State.setReply_ramVis (x : Reply) (s : State) : (s.setReply x).ramVis = s.ramVis := rfl
@[simp] theorem State.setReply_rtcIssued (x : Reply) (s : State) : (s.setReply x).rtcIssued = s.rtcIssued := rfl
@[simp] theorem State.setReply_rtc (x : Reply) (s : State) : (s.setReply x).rtc = s.rtc := rfl
@[simp] theorem State.setReply_workRamBanks (x : Reply) (s : State) : (s.setReply x).workRamBanks = s.workRamBanks := rfl
@[simp] theorem State.setReply_rom (x : Reply) (s : State) : (s.setReply x).rom = s.rom := rfl
@[simp] theorem State.setReply_ram (x : Reply) (s : State) : (s.setReply x).ram = s.ram := rfl
@[simp] theorem State.setReply_buffersIntact (x : Reply) (s : State) : (s.setReply x).buffersIntact = s.buffersIntact := rfl
@[simp] theorem State.setReply_reply (x : Reply) (s : State) : (s.setReply x).reply = x := rfl
@[simp] theorem State.setReply_captures (x : Reply) (s : State) : (s.setReply x).captures = s.captures := rfl
@[simp] theorem State.setReply_pending (x : Reply) (s : State) : (s.setReply x).pending = s.pending := rfl

/-! `State.setCaptures` -/

@[simp] theorem State.setCaptures_cartridgeActive (x : Nat) (s : State) : (s.setCaptures x).cartridgeActive = s.cartridgeActive := rfl
@[simp] theorem State.setCaptures_straps (x : Nat) (s : State) : (s.setCaptures x).straps = s.straps := rfl
@[simp] theorem State.setCaptures_romBankSelect (x : Nat) (s : State) : (s.setCaptures x).romBankSelect = s.romBankSelect := rfl
@[simp] theorem State.setCaptures_ramBankSelect (x : Nat) (s : State) : (s.setCaptures x).ramBankSelect = s.ramBankSelect := rfl
@[simp] theorem State.setCaptures_ramEnabled (x : Nat) (s : State) : (s.setCaptures x).ramEnabled = s.ramEnabled := rfl
@[simp] theorem State.setCaptures_bankingMode (x : Nat) (s : State) : (s.setCaptures x).bankingMode = s.bankingMode := rfl
@[simp] theorem State.setCaptures_romBank (x : Nat) (s : State) : (s.setCaptures x).romBank = s.romBank := rfl
@[simp] theorem State.setCaptures_rom0Window (x : Nat) (s : State) : (s.setCaptures x).rom0Window = s.rom0Window := rfl
@[simp] theorem State.setCaptures_ramVis (x : Nat) (s : State) : (s.setCaptures x).ramVis = s.ramVis := rfl
@[simp] theorem State.setCaptures_rtcIssued (x : Nat) (s : State) : (s.setCaptures x).rtcIssued = s.rtcIssued := rfl
@[simp] theorem State.setCaptures_rtc (x : Nat) (s : State) : (s.setCaptures x).rtc = s.rtc := rfl
@[simp] theorem State.setCaptures_workRamBanks (x : Nat) (s : State) : (s.setCaptures x).workRamBanks = s.workRamBanks := rfl
@[simp] theorem State.setCaptures_rom (x : Nat) (s : State) : (s.setCaptures x).rom = s.rom := rfl
@[simp] theorem State.setCaptures_ram (x : Nat) (s : State) : (s.setCaptures x).ram = s.ram := rfl
@[simp] theorem State.setCaptures_buffersIntact (x : Nat) (s : State) : (s.setCaptures x).buffersIntact = s.buffersIntact := rfl
@[simp] theorem State.setCaptures_reply (x : Nat) (s : State) : (s.setCaptures x).reply = s.reply := rfl
@[simp] theorem State.setCaptures_captures (x : Nat) (s : State) : (s.setCaptures x).captures = x := rfl
@[simp] theorem State.setCaptures_pending (x : Nat) (s : State) : (s.setCaptures x).pending = s.pending := rfl

/-! `State.setPending` -/

@[simp] theorem State.setPending_cartridgeActive (x : List Operation) (s : State) : (s.setPending x).cartridgeActive = s.cartridgeActive := rfl
@[simp] theorem State.setPending_straps (x : List Operation) (s : State) : (s.setPending x).straps = s.straps := rfl
@[simp] theorem State.setPending_romBankSelect (x : List Operation) (s : State) : (s.setPending x).romBankSelect = s.romBankSelect := rfl
@[simp] theorem State.setPending_ramBankSelect (x : List Operation) (s : State) : (s.setPending x).ramBankSelect = s.ramBankSelect := rfl
@[simp] theorem State.setPending_ramEnabled (x : List Operation) (s : State) : (s.setPending x).ramEnabled = s.ramEnabled := rfl
@[simp] theorem State.setPending_bankingMode (x : List Operation) (s : State) : (s.setPending x).bankingMode = s.bankingMode := rfl
@[simp] theorem State.setPending_romBank (x : List Operation) (s : State) : (s.setPending x).romBank = s.romBank := rfl
@[simp] theorem State.setPending_rom0Window (x : List Operation) (s : State) : (s.setPending x).rom0Window = s.rom0Window := rfl
@[simp] theorem State.setPending_ramVis (x : List Operation) (s : State) : (s.setPending x).ramVis = s.ramVis := rfl
@[simp] theorem State.setPending_rtcIssued (x : List Operation) (s : State) : (s.setPending x).rtcIssued = s.rtcIssued := rfl
@[simp] theorem State.setPending_rtc (x : List Operation) (s : State) : (s.setPending x).rtc = s.rtc := rfl
@[simp] theorem State.setPending_workRamBanks (x : List Operation) (s : State) : (s.setPending x).workRamBanks = s.workRamBanks := rfl
@[simp] theorem State.setPending_rom (x : List Operation) (s : State) : (s.setPending x).rom = s.rom := rfl
@[simp] theorem State.setPending_ram (x : List Operation) (s : State) : (s.setPending x).ram = s.ram := rfl
@[simp] theorem State.setPending_buffersIntact (x : List Operation) (s : State) : (s.setPending x).buffersIntact = s.buffersIntact := rfl
@[simp] theorem State.setPending_reply (x : List Operation) (s : State) : (s.setPending x).reply = s.reply := rfl
@[simp] theorem State.setPending_captures (x : List Operation) (s : State) : (s.setPending x).captures = s.captures := rfl
@[simp] theorem State.setPending_pending (x : List Operation) (s : State) : (s.setPending x).pending = x := rfl

end Sys2Proof.Machine
end

