-- ==== Sys2Proof/Laws/Ops.lean ====
section
/-! SUPPORT. One lemma per shared operation that says once everything it does, for proofs to cite instead of unfolding it. -/

namespace Sys2Proof.Machine

/-! ### The RTC port -/

theorem noteEvent_again (e : RtcEvent) (h : List RtcEvent) : noteEvent e (noteEvent e h) = noteEvent e h := by
  unfold noteEvent
  split <;> simp_all

/-- A repeated `setEnabled` changes nothing (spec/20_memory.md R77). -/
theorem setEnabled_again (b : Bool) (p : RtcPort) : (p.setEnabled b).setEnabled b = p.setEnabled b := by
  simp only [RtcPort.setEnabled, noteEvent_again]
  cases p.selection <;> cases b <;> rfl

/-- A repeated `swapActive` changes nothing (R77). -/
theorem swapActive_again (sel : Byte) (p : RtcPort) : (p.swapActive sel).swapActive sel = p.swapActive sel := by
  simp only [RtcPort.swapActive, noteEvent_again]
  rfl

@[simp] theorem setEnabled_enabled (b : Bool) (p : RtcPort) : (p.setEnabled b).enabled = b := rfl
@[simp] theorem swapActive_enabled (sel : Byte) (p : RtcPort) : (p.swapActive sel).enabled = p.enabled := rfl

/-- R34 (c): a selector in 0 to 3 makes the answer false. -/
theorem getActive_swapActive_ramBank {sel : Byte} (h : sel.toNat < 4) (p : RtcPort) :
    (p.swapActive sel).getActive = false := by
  simp [RtcPort.swapActive, RtcPort.getActive, h]

/-- R34 (c): and it stays false whatever is enabled meanwhile. -/
theorem getActive_setEnabled_ramBank {p : RtcPort} (h : p.selection = .ramBank) (b : Bool) :
    (p.setEnabled b).getActive = false := by
  simp [RtcPort.setEnabled, RtcPort.getActive, h]

/-- R34 (b): selector 0x08 with the RTC enabled makes the answer true. -/
theorem getActive_swapActive_register {p : RtcPort} (h : p.enabled = true) : (p.swapActive 0x08).getActive = true := by
  simp [RtcPort.swapActive, RtcPort.getActive, h]

/-- A command with its effect on the port: `setEnabled`. -/
theorem rtcSetEnabled_eq (b : Bool) (s : State) :
    rtcSetEnabled b s = { s with rtc := s.rtc.setEnabled b, rtcIssued := s.rtcIssued ++ [.setEnabled b] } := rfl

/-- A command with its effect on the port: `swapActive`. -/
theorem rtcSwapActive_eq (sel : Byte) (s : State) :
    rtcSwapActive sel s = { s with rtc := s.rtc.swapActive sel, rtcIssued := s.rtcIssued ++ [.swapActive sel] } := rfl

/-- A command with its effect on the port: `latch` has none. -/
theorem rtcLatch_eq (d : Byte) (s : State) :
    rtcLatch d s = { s with rtcIssued := s.rtcIssued ++ [.latch d] } := rfl

/-! ### The refresh procedures -/

/-- R39. -/
theorem refreshRomStd_eq (s : State) :
    refreshRomStd s =
      { s with romBank := standardBank s.straps.variant s.romBankSelect.toNat s.straps.romBankCount } := by
  simp [refreshRomStd, State.setRomBank, stdBank_eq]

/-- R40. -/
theorem refreshRomMulti_eq (s : State) :
    refreshRomMulti s =
      { s with rom0Window := 16 * (s.romBankSelect.toNat / 32 % 4), romBank := multicartBank s.romBankSelect.toNat } := by
  simp [refreshRomMulti, State.setRomBank, State.setRomBank0, multi64Block_eq, multi64Bank_eq]

/-- R41: both ROM latches are the view afterwards, but for the low window of a cartridge that is no multicart, which is not
written. -/
theorem refreshRom_eq (s : State) :
    refreshRom s =
      { s with
        romBank := s.viewRomBank
        rom0Window := if s.straps.multi64Quirk = true then s.viewRom0Window else s.rom0Window } := by
  unfold refreshRom multicartPath State.viewRomBank State.viewRom0Window
  cases hb : s.bankingMode <;> cases hq : s.straps.multi64Quirk <;>
    simp [refreshRomStd_eq, refreshRomMulti_eq, State.setRomBank0, hb]

/-- R42: `ramVis` is the view afterwards. -/
theorem refreshRam_eq (s : State) : refreshRam s = { s with ramVis := s.viewRamVis } := rfl

/-! ### Shared meanings -/

/-- R120 with everything it does. -/
theorem ramEnableWrite_eq (n : BitVec 4) (s : State) :
    ramEnableWrite n s =
      if s.straps.hasRtc = true then
        { s with
          ramEnabled := enableValue n
          rtc := s.rtc.setEnabled (enableValue n)
          rtcIssued := s.rtcIssued ++ [.setEnabled (enableValue n)]
          ramVis := ⟨enableValue n, (s.rtc.setEnabled (enableValue n)).getActive,
            visibleRamBank s.ramBankSelect.toNat s.straps.ramBankCount⟩ }
      else
        { s with
          ramEnabled := enableValue n
          ramVis := ⟨enableValue n, false, visibleRamBank s.ramBankSelect.toNat s.straps.ramBankCount⟩ } := by
  unfold ramEnableWrite
  cases h : s.straps.hasRtc <;>
    simp [refreshRam, rtcSetEnabled, issueRtc, rtcActiveFlag, State.setRamEnabled, State.setRtcIssued, State.setRtc,
      State.setRamBank, h, ramIndex_eq]

/-- A write into the RAM window changes the RAM buffer alone. -/
theorem ramWindowWrite_eq (o : BitVec 13) (d : Byte) (s : State) :
    ramWindowWrite o d s = s ∨ ∃ off, s.ramTarget o.toNat = some off
      ∧ ramWindowWrite o d s = s.setRam (Memory.write .ram s.ram off d) := by
  unfold ramWindowWrite
  cases h : s.ramTarget o.toNat with
  | none => exact .inl rfl
  | some off => exact .inr ⟨off, rfl, rfl⟩

/-- A byte of a buffer that holds what the spec says. -/
theorem busByte_of_defined {s : State} (h : s.buffersDefined = true) (v : Byte) : s.busByte (some v) = .byte v := by
  simp [State.busByte, h]

/-- No byte of a buffer is given where the spec does not say what it holds. -/
theorem busByte_of_undefined {s : State} (h : s.buffersDefined = false) (v : Option Byte) : s.busByte v = .unspecified := by
  simp [State.busByte, h]

/-- A LOAD that meets no cause of failure installs the cartridge and resets the decoder, unless its configuration is none that a
loader makes. -/
theorem loadStep_of_no_cause {r : LoadRequest} {v : Variant} (s : State) (hsize : 0x4000 ≤ r.image.size)
    (hv : r.header.variant = some v) (hread : r.readFails = false) :
    loadStep r s =
      if (strapsOf v r).wellFormed = true then
        .next ((resetDecoder (installCartridge (strapsOf v r) r s)).setReply .loaded)
      else .refused .illFormedConfiguration := by
  have hs : ¬ r.image.size < Config.romBankSize := Nat.not_lt.2 hsize
  unfold loadStep loadCartridge
  simp only [hs, hv, hread, if_false, Bool.false_eq_true]
  cases (strapsOf v r).wellFormed <;> rfl

/-- What the report of a LoadError changes. -/
theorem takeLoadError_eq (cause : LoadCause) (s : State) :
    takeLoadError cause s =
      { s with reply := .loadFailed cause, buffersIntact := s.buffersIntact && cause != .readFailure } := rfl

/-- What one LOAD can do: report a cause with the decoder as it was, install and reset, or refuse a configuration no loader makes. -/
theorem loadStep_cases (r : LoadRequest) (s : State) :
    (∃ cause, loadStep r s = .next (takeLoadError cause s))
    ∨ (∃ v, r.header.variant = some v ∧ (strapsOf v r).wellFormed = true
        ∧ loadStep r s = .next ((resetDecoder (installCartridge (strapsOf v r) r s)).setReply .loaded))
    ∨ loadStep r s = .refused .illFormedConfiguration := by
  unfold loadStep loadCartridge
  split
  · rename_i t h
    split at h
    · cases h
    · split at h
      · cases h
      · rename_i v hv
        split at h
        · cases h
        · split at h
          · rename_i hw
            cases h
            exact .inr (.inl ⟨v, hv, hw, rfl⟩)
          · cases h
  · rename_i cause h
    exact .inl ⟨cause, rfl⟩
  · rename_i e h
    refine .inr (.inr ?_)
    split at h
    · cases h
    · split at h
      · cases h
      · split at h
        · cases h
        · split at h
          · cases h
          · cases h; rfl

/-! ### What the step can do -/

/-- A next state of a step: nothing was presented, or the operation taken off the list answered it. -/
theorem step_cases {s t : State} (h : step s = .next t) :
    (s.pending = [] ∧ t = s)
    ∨ ∃ op rest, s.pending = op :: rest ∧ present op (s.setPending rest) = .next t := by
  unfold step stepPending at h
  split at h
  · rename_i hp
    cases h
    exact .inl ⟨hp, rfl⟩
  · rename_i op rest hp
    exact .inr ⟨op, rest, hp, h⟩

/-- A next state of an operation other than LOAD needs an active cartridge, and is what the operation does there. -/
theorem present_cases {op : Operation} {s t : State} (h : present op s = .next t) :
    (∃ r, op = .load r ∧ loadStep r s = .next t)
    ∨ s.cartridgeActive = true ∧
      ((∃ a d, op = .wr a d ∧ exec (decode s.straps.variant (busWord a d)) s = .next t)
      ∨ (op = .capture ∧ t = captureStep s)
      ∨ (∃ saved, op = .restore saved ∧ t = restoreStep saved s)
      ∨ ∃ o d, op = .ramWrite o d ∧ t = ramWindowWrite o d s) := by
  cases op with
  | load r => exact .inl ⟨r, rfl, h⟩
  | wr a d =>
    simp only [present, whenActive] at h
    split at h
    · rename_i ha
      exact .inr ⟨ha, .inl ⟨a, d, rfl, h⟩⟩
    · cases h
  | capture =>
    simp only [present, whenActive] at h
    split at h
    · rename_i ha
      cases h
      exact .inr ⟨ha, .inr (.inl ⟨rfl, rfl⟩)⟩
    · cases h
  | restore saved =>
    simp only [present, whenActive] at h
    split at h
    · rename_i ha
      cases h
      exact .inr ⟨ha, .inr (.inr (.inl ⟨saved, rfl, rfl⟩))⟩
    · cases h
  | ramWrite o d =>
    simp only [present, whenActive] at h
    split at h
    · rename_i ha
      cases h
      exact .inr ⟨ha, .inr (.inr (.inr ⟨o, d, rfl, rfl⟩))⟩
    · cases h

end Sys2Proof.Machine
end

