-- ==== Sys2Proof/Laws/PerInstr.lean ====
section
/-! SUPPORT. One family over all operations, by constructor: the word the encoder writes carries the mask bits of the operation's own row
of the opcode map, the row read under the operation's own strap (spec/30_encoding.md R94, R95). -/

namespace Sys2Proof.Laws.RowMatch

/-- The opcode map has a row of this mnemonic and strap, and the encoder's word matches it. -/
def Statement (i : Instr) : Prop :=
  ∃ r ∈ opcodeRows, r.mnemonic = i.mnemonic ∧ r.variant = i.variant ∧ encode i &&& r.mask = r.value

theorem plainRamen (n : BitVec 4) : Statement (.plainRamen n) :=
  ⟨⟨"PLAIN.RAMEN", some .plain, 0xE00000, 0x000000, 0x00000F⟩, by decide, rfl, rfl, by revert n; decide⟩

theorem plainNop1 : Statement .plainNop1 :=
  ⟨⟨"PLAIN.NOP1", some .plain, 0xE00000, 0x200000, 0x000000⟩, by decide, rfl, rfl, by decide⟩

theorem plainNop2 : Statement .plainNop2 :=
  ⟨⟨"PLAIN.NOP2", some .plain, 0xE00000, 0x400000, 0x000000⟩, by decide, rfl, rfl, by decide⟩

theorem plainNop3 : Statement .plainNop3 :=
  ⟨⟨"PLAIN.NOP3", some .plain, 0xE00000, 0x600000, 0x000000⟩, by decide, rfl, rfl, by decide⟩

theorem mbc1Ramen (n : BitVec 4) : Statement (.mbc1Ramen n) :=
  ⟨⟨"MBC1.RAMEN", some .mbc1, 0xE00000, 0x000000, 0x00000F⟩, by decide, rfl, rfl, by revert n; decide⟩

theorem mbc1Romlo (b : BitVec 5) : Statement (.mbc1Romlo b) :=
  ⟨⟨"MBC1.ROMLO", some .mbc1, 0xE00000, 0x200000, 0x00001F⟩, by decide, rfl, rfl, by revert b; decide⟩

theorem mbc1Bank2 (u : BitVec 2) : Statement (.mbc1Bank2 u) :=
  ⟨⟨"MBC1.BANK2", some .mbc1, 0xE00000, 0x400000, 0x000003⟩, by decide, rfl, rfl, by revert u; decide⟩

theorem mbc1Mode (m : BitVec 1) : Statement (.mbc1Mode m) :=
  ⟨⟨"MBC1.MODE", some .mbc1, 0xE00000, 0x600000, 0x000001⟩, by decide, rfl, rfl, by revert m; decide⟩

theorem mbc2Ramen (n : BitVec 4) : Statement (.mbc2Ramen n) :=
  ⟨⟨"MBC2.RAMEN", some .mbc2, 0xE10000, 0x010000, 0x00000F⟩, by decide, rfl, rfl, by revert n; decide⟩

theorem mbc2Nop0 : Statement .mbc2Nop0 :=
  ⟨⟨"MBC2.NOP0", some .mbc2, 0xE10000, 0x000000, 0x000000⟩, by decide, rfl, rfl, by decide⟩

theorem mbc2Romb (b : BitVec 4) : Statement (.mbc2Romb b) :=
  ⟨⟨"MBC2.ROMB", some .mbc2, 0xE10000, 0x210000, 0x00000F⟩, by decide, rfl, rfl, by revert b; decide⟩

theorem mbc2Nop1 : Statement .mbc2Nop1 :=
  ⟨⟨"MBC2.NOP1", some .mbc2, 0xE10000, 0x200000, 0x000000⟩, by decide, rfl, rfl, by decide⟩

theorem mbc2Nop2 : Statement .mbc2Nop2 :=
  ⟨⟨"MBC2.NOP2", some .mbc2, 0xE00000, 0x400000, 0x000000⟩, by decide, rfl, rfl, by decide⟩

theorem mbc2Nop3 : Statement .mbc2Nop3 :=
  ⟨⟨"MBC2.NOP3", some .mbc2, 0xE00000, 0x600000, 0x000000⟩, by decide, rfl, rfl, by decide⟩

theorem mbc3Ramen (n : BitVec 4) : Statement (.mbc3Ramen n) :=
  ⟨⟨"MBC3.RAMEN", some .mbc3, 0xE00000, 0x000000, 0x00000F⟩, by decide, rfl, rfl, by revert n; decide⟩

theorem mbc3Romb (b : BitVec 7) : Statement (.mbc3Romb b) :=
  ⟨⟨"MBC3.ROMB", some .mbc3, 0xE00000, 0x200000, 0x00007F⟩, by decide, rfl, rfl, by revert b; decide⟩

theorem mbc3Ramb (u : BitVec 2) (s : BitVec 8) : Statement (.mbc3Ramb u s) :=
  ⟨⟨"MBC3.RAMB", some .mbc3, 0xE00000, 0x400000, 0x0000FF⟩, by decide, rfl, rfl, by
    apply BitVec.eq_of_getLsbD_eq
    intro k hk
    interval_cases k <;> simp [encode]⟩

theorem mbc3Latch (l : BitVec 8) : Statement (.mbc3Latch l) :=
  ⟨⟨"MBC3.LATCH", some .mbc3, 0xE00000, 0x600000, 0x0000FF⟩, by decide, rfl, rfl, by revert l; decide⟩

theorem mbc5Ramen (n : BitVec 4) : Statement (.mbc5Ramen n) :=
  ⟨⟨"MBC5.RAMEN", some .mbc5, 0xE00000, 0x000000, 0x00000F⟩, by decide, rfl, rfl, by revert n; decide⟩

theorem mbc5Romlo (b : BitVec 8) : Statement (.mbc5Romlo b) :=
  ⟨⟨"MBC5.ROMLO", some .mbc5, 0xF00000, 0x200000, 0x0000FF⟩, by decide, rfl, rfl, by revert b; decide⟩

theorem mbc5Romhi (h : BitVec 1) : Statement (.mbc5Romhi h) :=
  ⟨⟨"MBC5.ROMHI", some .mbc5, 0xF00000, 0x300000, 0x000001⟩, by decide, rfl, rfl, by revert h; decide⟩

theorem mbc5Ramb (u : BitVec 4) : Statement (.mbc5Ramb u) :=
  ⟨⟨"MBC5.RAMB", some .mbc5, 0xE00000, 0x400000, 0x00000F⟩, by decide, rfl, rfl, by revert u; decide⟩

theorem mbc5Nop3 : Statement .mbc5Nop3 :=
  ⟨⟨"MBC5.NOP3", some .mbc5, 0xE00000, 0x600000, 0x000000⟩, by decide, rfl, rfl, by decide⟩

theorem anyNosel : Statement .anyNosel :=
  ⟨⟨"ANY.NOSEL", none, 0x800000, 0x800000, 0x000000⟩, by decide, rfl, rfl, by decide⟩

end Sys2Proof.Laws.RowMatch
end

