-- ==== Sys2Proof/Tests/Slice0.lean ====
section
/-! SUPPORT. Tests of the model against spec/95_test_vectors.md, and one witness per statement that has hypotheses. The expected
results are the spec's own numbers; each test's docstring names the vector. -/

namespace Sys2Proof.Tests

open Sys2Proof Sys2Proof.Machine

/-! ### Small configurations and states -/

/-- A configuration in the notation of spec/30_encoding.md R103; `multi64Quirk` follows by R29. -/
def cart (v : Variant) (rom ram : Nat) (rtc multi : Bool) : Straps where
  variant := v
  romBankCount := rom
  ramBankCount := ram
  hasRtc := rtc
  hasBattery := false
  multicartCompat := multi
  multi64Quirk := quirkValue ram rom v multi

/-- "Registers before" of a vector: established by a RESTORE of the tuple. -/
def before (c : Straps) (r : BitVec 9) (k : BitVec 4) (en mode : Bool) : State :=
  restoreStep ⟨r, k, en, mode, []⟩ (State.reset.setStraps c)

/-- What a vector lists: the register tuple and the latches. -/
structure Seen where
  romBankSelect : Nat
  ramBankSelect : Nat
  ramEnabled : Bool
  bankingMode : Bool
  romBank : Nat
  rom0Window : Nat
  ramVis : RamVis
  deriving DecidableEq, Repr

def seen (s : State) : Seen :=
  ⟨s.romBankSelect.toNat, s.ramBankSelect.toNat, s.ramEnabled, s.bankingMode, s.romBank, s.rom0Window, s.ramVis⟩

/-- One operation presented, and what is seen after it. -/
def after (s : State) (op : Operation) : Option Seen :=
  match step (s.setPending [op]) with
  | .next t => some (seen t)
  | .fault _ => none
  | .refused _ => none

/-- One operation presented, and the RTC commands it issues. -/
def issues (s : State) (op : Operation) : Option (List RtcCommand) :=
  match step (s.setPending [op]) with
  | .next t => some (t.rtcIssued.drop s.rtcIssued.length)
  | .fault _ => none
  | .refused _ => none

/-- An MBC3 cartridge with the chip, RAM and RTC enabled by one write. -/
def rtcEnabled : State := ramEnableWrite 0xA (State.reset.setStraps (cart .mbc3 64 4 true false))

/-! ### Ill-formed terms, one for each check of WellFormed -/

theorem test_mbc3Ramb_fields_disagree : (Instr.mbc3Ramb 1 0x08).wellFormed = false := by decide
theorem test_mbc3Ramb_fields_agree : (Instr.mbc3Ramb 3 0x07).wellFormed = true := by decide
theorem test_readUnder_other_strap : (Instr.mbc1Mode 1).readUnder .mbc3 = false := by decide
theorem test_straps_not_a_power_of_two : (cart .mbc1 6 0 false false).wellFormed = false := by decide
theorem test_straps_no_bank : (cart .mbc1 0 0 false false).wellFormed = false := by decide
theorem test_straps_one_bank : (cart .mbc5 1 0 false false).wellFormed = false := by decide
theorem test_straps_quirk_missing :
    ({ cart .mbc1 64 0 false true with multi64Quirk := false } : Straps).wellFormed = false := by decide
theorem test_straps_quirk_spurious :
    ({ cart .mbc1 64 1 false true with multi64Quirk := true } : Straps).wellFormed = false := by decide
theorem test_straps_rtc_elsewhere : (cart .mbc5 64 4 true false).wellFormed = false := by decide
theorem test_straps_well_formed : (cart .mbc3 64 4 true false).wellFormed = true := by decide

/-! ### Every row's word, written out bit by bit from spec/30_encoding.md R94: A[15], A[14:12], A[11:8], A[7:0], D[7:0] -/

/-- V40.2. -/
theorem test_decode_plainRamen : decode .plain 0b0_001_1111_11111111_11111010 = .plainRamen 0xA := by decide
/-- V41.11. -/
theorem test_decode_plainNop1 : decode .plain 0b0_010_0000_00000000_00000000 = .plainNop1 := by decide
/-- V42.17. -/
theorem test_decode_plainNop2 : decode .plain 0b0_100_0000_00000000_00000011 = .plainNop2 := by decide
/-- V43.11. -/
theorem test_decode_plainNop3 : decode .plain 0b0_110_0000_00000000_00000001 = .plainNop3 := by decide
/-- V40.5. -/
theorem test_decode_mbc1Ramen : decode .mbc1 0b0_000_0000_00000000_00001010 = .mbc1Ramen 0xA := by decide
/-- V41.6. -/
theorem test_decode_mbc1Romlo : decode .mbc1 0b0_011_1111_11111111_11100011 = .mbc1Romlo 0x03 := by decide
/-- V42.2. -/
theorem test_decode_mbc1Bank2 : decode .mbc1 0b0_101_1111_11111111_11111100 = .mbc1Bank2 0 := by decide
/-- V43.2. -/
theorem test_decode_mbc1Mode : decode .mbc1 0b0_111_1111_11111111_11111110 = .mbc1Mode 0 := by decide
/-- V40.10. -/
theorem test_decode_mbc2Ramen : decode .mbc2 0b0_000_0001_00000000_00001010 = .mbc2Ramen 0xA := by decide
/-- V40.11. -/
theorem test_decode_mbc2Nop0 : decode .mbc2 0b0_000_0000_11111111_00000000 = .mbc2Nop0 := by decide
/-- V41.14. -/
theorem test_decode_mbc2Romb : decode .mbc2 0b0_011_1111_00000000_00010000 = .mbc2Romb 0 := by decide
/-- V41.12. -/
theorem test_decode_mbc2Nop1 : decode .mbc2 0b0_010_0000_00000000_00000011 = .mbc2Nop1 := by decide
/-- V42.18. -/
theorem test_decode_mbc2Nop2 : decode .mbc2 0b0_100_0001_00000000_00000001 = .mbc2Nop2 := by decide
/-- V43.12. -/
theorem test_decode_mbc2Nop3 : decode .mbc2 0b0_111_1111_11111111_11111111 = .mbc2Nop3 := by decide
/-- V40.14. -/
theorem test_decode_mbc3Ramen : decode .mbc3 0b0_000_0000_00000000_00011011 = .mbc3Ramen 0xB := by decide
/-- V41.18. -/
theorem test_decode_mbc3Romb : decode .mbc3 0b0_010_0000_00000000_10000000 = .mbc3Romb 0 := by decide
/-- V42.9. -/
theorem test_decode_mbc3Ramb : decode .mbc3 0b0_100_0001_00000000_00001000 = .mbc3Ramb 0 0x08 := by decide
/-- V43.9. -/
theorem test_decode_mbc3Latch : decode .mbc3 0b0_110_0000_00000000_00000001 = .mbc3Latch 0x01 := by decide
/-- V40.8. -/
theorem test_decode_mbc5Ramen : decode .mbc5 0b0_001_0010_00110100_00111010 = .mbc5Ramen 0xA := by decide
/-- V41.26. -/
theorem test_decode_mbc5Romlo : decode .mbc5 0b0_010_1111_11111111_11111111 = .mbc5Romlo 0xFF := by decide
/-- V41.24. -/
theorem test_decode_mbc5Romhi : decode .mbc5 0b0_011_0000_00000000_11111110 = .mbc5Romhi 0 := by decide
/-- V42.15. -/
theorem test_decode_mbc5Ramb : decode .mbc5 0b0_100_0000_00000000_11110101 = .mbc5Ramb 0x5 := by decide
/-- V43.13. -/
theorem test_decode_mbc5Nop3 : decode .mbc5 0b0_110_0000_00000000_00000001 = .mbc5Nop3 := by decide
/-- VNS.2. -/
theorem test_decode_anyNosel : decode .mbc1 0b1_010_0000_00000000_00000101 = .anyNosel := by decide

/-- R94: the table's word of `MBC2.ROMB` with its operand bits 0, under the strap of `State.reset`. -/
theorem test_decodeTableWord_mbc2Romb : decodeTableWord 24 0x210000 = some (.mbc2Romb 0) := by decide
/-- The write `withFetchWord` places is the next one `step` presents. -/
theorem test_withFetchWord : (State.reset.withFetchWord 24 0x210007).pending = [.wr 0x2100 0x07] := by decide

/-! ### Where the clauses of the address map meet -/

/-- R96, at the ends of the address ranges. -/
theorem test_addressMap_plain :
    decode .plain (busWord 0x1FFF 0x0A) = .plainRamen 0xA
    ∧ decode .plain (busWord 0x2000 0x0A) = .plainNop1
    ∧ decode .plain (busWord 0xFFFF 0xFF) = .anyNosel := by decide
/-- R96, at the ends of the address ranges. -/
theorem test_addressMap_mbc1 :
    decode .mbc1 (busWord 0x0000 0x0A) = .mbc1Ramen 0xA
    ∧ decode .mbc1 (busWord 0x3FFF 0x1F) = .mbc1Romlo 0x1F
    ∧ decode .mbc1 (busWord 0x4000 0x03) = .mbc1Bank2 3
    ∧ decode .mbc1 (busWord 0x5FFF 0x03) = .mbc1Bank2 3
    ∧ decode .mbc1 (busWord 0x6000 0x01) = .mbc1Mode 1 := by decide
/-- R96, at the ends of the address ranges. -/
theorem test_addressMap_mbc2 :
    decode .mbc2 (busWord 0x1FFF 0x0A) = .mbc2Ramen 0xA
    ∧ decode .mbc2 (busWord 0x2000 0x0A) = .mbc2Nop1
    ∧ decode .mbc2 (busWord 0x3FFF 0x0F) = .mbc2Romb 0xF
    ∧ decode .mbc2 (busWord 0x4000 0x01) = .mbc2Nop2
    ∧ decode .mbc2 (busWord 0x6000 0x01) = .mbc2Nop3
    ∧ decode .mbc2 (busWord 0x00FF 0x0A) = .mbc2Nop0 := by decide
/-- R96, at the ends of the address ranges. -/
theorem test_addressMap_mbc3 :
    decode .mbc3 (busWord 0x1FFF 0x0A) = .mbc3Ramen 0xA
    ∧ decode .mbc3 (busWord 0x2000 0x7F) = .mbc3Romb 0x7F
    ∧ decode .mbc3 (busWord 0x3FFF 0xFF) = .mbc3Romb 0x7F
    ∧ decode .mbc3 (busWord 0x5FFF 0xFF) = .mbc3Ramb 3 0xFF
    ∧ decode .mbc3 (busWord 0x7FFF 0xFF) = .mbc3Latch 0xFF := by decide
/-- R96, at the ends of the address ranges. -/
theorem test_addressMap_mbc5 :
    decode .mbc5 (busWord 0x2FFF 0x01) = .mbc5Romlo 0x01
    ∧ decode .mbc5 (busWord 0x3000 0x01) = .mbc5Romhi 1
    ∧ decode .mbc5 (busWord 0x3FFF 0x01) = .mbc5Romhi 1
    ∧ decode .mbc5 (busWord 0x4000 0x0F) = .mbc5Ramb 0xF
    ∧ decode .mbc5 (busWord 0x7FFF 0x01) = .mbc5Nop3
    ∧ decode .mbc5 (busWord 0x8000 0x0A) = .anyNosel := by decide

/-! ### One write each, from spec/95_test_vectors.md section 2 -/

/-- V40.1, `PLAIN.RAMEN`. -/
theorem test_V40_1 :
    after (before (cart .plain 2 1 false false) 0x001 0x0 false false) (.wr 0x0000 0x0A)
      = some ⟨0x001, 0x0, true, false, 0x01, 0x00, ⟨true, false, 0⟩⟩ := by decide
/-- V40.3, `PLAIN.RAMEN`. -/
theorem test_V40_3 :
    after (before (cart .plain 2 1 false false) 0x001 0x0 true false) (.wr 0x0000 0x0B)
      = some ⟨0x001, 0x0, false, false, 0x01, 0x00, ⟨false, false, 0⟩⟩ := by decide
/-- V40.6, `MBC1.RAMEN`. -/
theorem test_V40_6 :
    after (before (cart .mbc1 8 4 false false) 0x005 0x2 true true) (.wr 0x0000 0x00)
      = some ⟨0x005, 0x2, false, true, 0x05, 0x00, ⟨false, false, 2⟩⟩ := by decide
/-- V40.7, `MBC1.RAMEN`. -/
theorem test_V40_7 :
    after (before (cart .mbc1 64 0 false true) 0x001 0x0 false false) (.wr 0x0000 0x0A)
      = some ⟨0x001, 0x0, true, false, 0x01, 0x00, ⟨true, false, 0⟩⟩ := by decide
/-- V40.8, `MBC5.RAMEN`. -/
theorem test_V40_8 :
    after (before (cart .mbc5 64 0 false false) 0x001 0x0 false false) (.wr 0x1234 0x3A)
      = some ⟨0x001, 0x0, true, false, 0x01, 0x00, ⟨true, false, 0⟩⟩ := by decide
/-- V40.10, `MBC2.RAMEN`. -/
theorem test_V40_10 :
    after (before (cart .mbc2 16 1 false false) 0x001 0x0 false false) (.wr 0x0100 0x0A)
      = some ⟨0x001, 0x0, true, false, 0x01, 0x00, ⟨true, false, 0⟩⟩ := by decide
/-- V40.11, `MBC2.NOP0`. -/
theorem test_V40_11 :
    after (before (cart .mbc2 16 1 false false) 0x001 0x0 true false) (.wr 0x00FF 0x00)
      = some ⟨0x001, 0x0, true, false, 0x01, 0x00, ⟨true, false, 0⟩⟩ := by decide
/-- V40.12, `MBC2.RAMEN`. -/
theorem test_V40_12 :
    after (before (cart .mbc2 16 1 false false) 0x001 0x0 true false) (.wr 0x1F00 0x00)
      = some ⟨0x001, 0x0, false, false, 0x01, 0x00, ⟨false, false, 0⟩⟩ := by decide
/-- V40.15, `MBC3.RAMEN`. -/
theorem test_V40_15 :
    after (before (cart .mbc3 64 4 false false) 0x001 0x0 false false) (.wr 0x0000 0x0A)
      = some ⟨0x001, 0x0, true, false, 0x01, 0x00, ⟨true, false, 0⟩⟩ := by decide
/-- V41.2, `MBC1.ROMLO`. -/
theorem test_V41_2 :
    after (before (cart .mbc1 8 0 false false) 0x005 0x0 false false) (.wr 0x2100 0x00)
      = some ⟨0x000, 0x0, false, false, 0x01, 0x00, ⟨false, false, 0⟩⟩ := by decide
/-- V41.9, `MBC1.ROMLO`. -/
theorem test_V41_9 :
    after (before (cart .mbc1 128 4 false false) 0x065 0x2 false true) (.wr 0x2000 0x12)
      = some ⟨0x012, 0x2, false, true, 0x12, 0x00, ⟨false, false, 2⟩⟩ := by decide
/-- V41.11, `PLAIN.NOP1`. -/
theorem test_V41_11 :
    after (before (cart .plain 2 0 false false) 0x001 0x0 false false) (.wr 0x2000 0x00)
      = some ⟨0x001, 0x0, false, false, 0x01, 0x00, ⟨false, false, 0⟩⟩ := by decide
/-- V41.12, `MBC2.NOP1`. -/
theorem test_V41_12 :
    after (before (cart .mbc2 16 1 false false) 0x001 0x0 false false) (.wr 0x2000 0x03)
      = some ⟨0x001, 0x0, false, false, 0x01, 0x00, ⟨false, false, 0⟩⟩ := by decide
/-- V41.14, `MBC2.ROMB`. -/
theorem test_V41_14 :
    after (before (cart .mbc2 16 1 false false) 0x007 0x0 false false) (.wr 0x3F00 0x10)
      = some ⟨0x000, 0x0, false, false, 0x00, 0x00, ⟨false, false, 0⟩⟩ := by decide
/-- V41.15, `MBC2.ROMB`. -/
theorem test_V41_15 :
    after (before (cart .mbc2 16 1 false false) 0x000 0x0 false false) (.wr 0x2100 0xFF)
      = some ⟨0x00F, 0x0, false, false, 0x0F, 0x00, ⟨false, false, 0⟩⟩ := by decide
/-- V41.17, `MBC3.ROMB`. -/
theorem test_V41_17 :
    after (before (cart .mbc3 64 4 false false) 0x045 0x0 false false) (.wr 0x3000 0x00)
      = some ⟨0x000, 0x0, false, false, 0x00, 0x00, ⟨false, false, 0⟩⟩ := by decide
/-- V41.19, `MBC3.ROMB`. -/
theorem test_V41_19 :
    after (before (cart .mbc3 64 4 false false) 0x000 0x0 false false) (.wr 0x2000 0x7F)
      = some ⟨0x07F, 0x0, false, false, 0x3F, 0x00, ⟨false, false, 0⟩⟩ := by decide
/-- V41.21, `MBC5.ROMHI`. -/
theorem test_V41_21 :
    after (before (cart .mbc5 512 16 false false) 0x034 0x0 false false) (.wr 0x3000 0x01)
      = some ⟨0x134, 0x0, false, false, 0x134, 0x00, ⟨false, false, 0⟩⟩ := by decide
/-- V41.22, `MBC5.ROMLO`. -/
theorem test_V41_22 :
    after (before (cart .mbc5 512 16 false false) 0x134 0x0 false false) (.wr 0x2000 0x00)
      = some ⟨0x100, 0x0, false, false, 0x100, 0x00, ⟨false, false, 0⟩⟩ := by decide
/-- V41.25, `MBC5.ROMHI`. -/
theorem test_V41_25 :
    after (before (cart .mbc5 512 16 false false) 0x000 0x0 false false) (.wr 0x3000 0xFF)
      = some ⟨0x100, 0x0, false, false, 0x100, 0x00, ⟨false, false, 0⟩⟩ := by decide
/-- V41.26, `MBC5.ROMLO`. -/
theorem test_V41_26 :
    after (before (cart .mbc5 512 16 false false) 0x100 0x0 false false) (.wr 0x2FFF 0xFF)
      = some ⟨0x1FF, 0x0, false, false, 0x1FF, 0x00, ⟨false, false, 0⟩⟩ := by decide
/-- V42.4, `MBC1.BANK2`. -/
theorem test_V42_4 :
    after (before (cart .mbc1 128 4 false false) 0x065 0x2 true true) (.wr 0x4000 0xFF)
      = some ⟨0x065, 0x3, true, true, 0x65, 0x00, ⟨true, false, 3⟩⟩ := by decide
/-- V42.5, `MBC1.BANK2`. -/
theorem test_V42_5 :
    after (before (cart .mbc1 64 0 false true) 0x001 0x0 false true) (.wr 0x4000 0x02)
      = some ⟨0x041, 0x0, false, true, 0x21, 0x20, ⟨false, false, 0⟩⟩ := by decide
/-- V42.13, `MBC3.RAMB`. -/
theorem test_V42_13 :
    after (before (cart .mbc3 64 4 false false) 0x001 0x0 false false) (.wr 0x4000 0x07)
      = some ⟨0x001, 0x3, false, false, 0x01, 0x00, ⟨false, false, 3⟩⟩ := by decide
/-- V42.14, `MBC5.RAMB`. -/
theorem test_V42_14 :
    after (before (cart .mbc5 64 4 false false) 0x001 0x0 true false) (.wr 0x4000 0x0E)
      = some ⟨0x001, 0xE, true, false, 0x01, 0x00, ⟨true, false, 2⟩⟩ := by decide
/-- V42.16, `MBC5.RAMB`. -/
theorem test_V42_16 :
    after (before (cart .mbc5 64 0 false false) 0x001 0x0 false false) (.wr 0x4000 0x0F)
      = some ⟨0x001, 0xF, false, false, 0x01, 0x00, ⟨false, false, 0⟩⟩ := by decide
/-- V42.17, `PLAIN.NOP2`. -/
theorem test_V42_17 :
    after (before (cart .plain 2 1 false false) 0x001 0x0 false false) (.wr 0x4000 0x03)
      = some ⟨0x001, 0x0, false, false, 0x01, 0x00, ⟨false, false, 0⟩⟩ := by decide
/-- V42.18, `MBC2.NOP2`. -/
theorem test_V42_18 :
    after (before (cart .mbc2 16 1 false false) 0x001 0x0 false false) (.wr 0x4100 0x01)
      = some ⟨0x001, 0x0, false, false, 0x01, 0x00, ⟨false, false, 0⟩⟩ := by decide
/-- V43.6, `MBC1.MODE`. -/
theorem test_V43_6 :
    after (before (cart .mbc1 64 0 false true) 0x065 0x0 false false) (.wr 0x6000 0x01)
      = some ⟨0x065, 0x0, false, true, 0x35, 0x30, ⟨false, false, 0⟩⟩ := by decide
/-- V43.7, `MBC1.MODE`. -/
theorem test_V43_7 :
    after (before (cart .mbc1 64 0 false true) 0x065 0x0 false true) (.wr 0x6000 0x00)
      = some ⟨0x065, 0x0, false, false, 0x25, 0x00, ⟨false, false, 0⟩⟩ := by decide
/-- V43.10, `MBC3.LATCH`. -/
theorem test_V43_10 :
    after (before (cart .mbc3 64 4 false false) 0x001 0x0 false false) (.wr 0x6000 0x01)
      = some ⟨0x001, 0x0, false, false, 0x01, 0x00, ⟨false, false, 0⟩⟩ := by decide
/-- V43.11, `PLAIN.NOP3`. -/
theorem test_V43_11 :
    after (before (cart .plain 2 0 false false) 0x001 0x0 false false) (.wr 0x6000 0x01)
      = some ⟨0x001, 0x0, false, false, 0x01, 0x00, ⟨false, false, 0⟩⟩ := by decide
/-- V43.12, `MBC2.NOP3`. -/
theorem test_V43_12 :
    after (before (cart .mbc2 16 1 false false) 0x001 0x0 false false) (.wr 0x7FFF 0xFF)
      = some ⟨0x001, 0x0, false, false, 0x01, 0x00, ⟨false, false, 0⟩⟩ := by decide
/-- V43.13, `MBC5.NOP3`. -/
theorem test_V43_13 :
    after (before (cart .mbc5 64 4 false false) 0x001 0x0 false false) (.wr 0x6000 0x01)
      = some ⟨0x001, 0x0, false, false, 0x01, 0x00, ⟨false, false, 0⟩⟩ := by decide
/-- VNS.2, `ANY.NOSEL`. -/
theorem test_VNS_2 :
    after (before (cart .mbc1 8 0 false false) 0x001 0x0 false false) (.wr 0xA000 0x05)
      = some ⟨0x001, 0x0, false, false, 0x01, 0x00, ⟨false, false, 0⟩⟩ := by decide
/-- VNS.4, `ANY.NOSEL`. -/
theorem test_VNS_4 :
    after (before (cart .mbc1 8 0 false false) 0x001 0x0 false false) (.wr 0xFFFF 0xFF)
      = some ⟨0x001, 0x0, false, false, 0x01, 0x00, ⟨false, false, 0⟩⟩ := by decide

/-- V40.14: the RTC's enable is commanded where there is the chip; V40.15: no command without it. -/
theorem test_V40_14_commands : issues rtcEnabled (.wr 0x0000 0x1B) = some [.setEnabled false]
    ∧ issues (before (cart .mbc3 64 4 false false) 1 0 false false) (.wr 0x0000 0x0A) = some [] := by decide
/-- V42.9: the selector 0x08 activates the RTC, and the raw byte is the command's selector. -/
theorem test_V42_9 : after rtcEnabled (.wr 0x4100 0x08) = some ⟨1, 0, true, false, 1, 0, ⟨true, true, 0⟩⟩
    ∧ issues rtcEnabled (.wr 0x4100 0x08) = some [.swapActive 0x08] := by decide
/-- V43.9: the raw byte is forwarded. -/
theorem test_V43_9_commands : issues rtcEnabled (.wr 0x6000 0x01) = some [.latch 0x01] := by decide

/-! ### RESTORE, CAPTURE and LOAD (spec/95_test_vectors.md section 2.6 and the table of S3) -/

/-- VH.1. -/
theorem test_VH_1 :
    seen (before (cart .mbc1 64 0 false true) 0x041 0x0 false true)
      = ⟨65, 0, false, true, 0x21, 0x20, ⟨false, false, 0⟩⟩ := by decide
/-- VH.2. -/
theorem test_VH_2 :
    seen (before (cart .mbc1 64 0 false true) 0x041 0x0 false false)
      = ⟨65, 0, false, false, 0x01, 0x00, ⟨false, false, 0⟩⟩ := by decide
/-- VH.4. -/
theorem test_VH_4 :
    seen (before (cart .mbc2 16 1 false false) 0x1FF 0xF true true)
      = ⟨511, 15, true, true, 0x0F, 0x00, ⟨true, false, 0⟩⟩ := by decide
/-- VH.5. -/
theorem test_VH_5 :
    seen (before (cart .mbc5 8 0 false false) 0x100 0x3 true false)
      = ⟨256, 3, true, false, 0x00, 0x00, ⟨true, false, 0⟩⟩ := by decide
/-- VH.7: no chip, so the RTC Model is restored disabled whatever the saved flag. -/
theorem test_VH_7_commands :
    issues (State.reset.setStraps (cart .mbc3 64 4 false false)) (.restore ⟨0, 2, true, false, []⟩)
      = some [.restore [] false] := by decide
/-- VH.6: with the chip it is restored enabled. -/
theorem test_VH_6_commands :
    issues (State.reset.setStraps (cart .mbc3 64 4 true false)) (.restore ⟨0, 2, true, false, []⟩)
      = some [.restore [] true] := by decide
/-- PRG6 step 4. -/
theorem test_PRG6_capture :
    issues (before (cart .mbc1 64 0 false true) 0x047 0 false true) .capture = some [.capture] := by decide

/-- S3: the ROM bank counts of the size table. -/
theorem test_S3_small : romBankCountOf 0x4000 = 2 ∧ romBankCountOf 0x8000 = 2 ∧ romBankCountOf 0xC000 = 4 := by decide
theorem test_S3_rounding : romBankCountOf 0x20000 = 8 ∧ romBankCountOf 0x28000 = 16 ∧ romBankCountOf 0x2BFFF = 16 := by decide
theorem test_S3_large : romBankCountOf 0x100000 = 64 ∧ romBankCountOf 0x800000 = 512 := by decide

/-- A LOAD request for an image of a given size with nothing but 0xFF in it. -/
def request (size : Nat) (v : Option Variant) (ram : Nat) (multi readFails : Bool) : LoadRequest :=
  ⟨⟨size, []⟩, ⟨v, ram, false, false, false⟩, false, multi, readFails⟩

/-- The reply a host gets to one operation. -/
def replyTo (s : State) (op : Operation) : Option Reply :=
  match step (s.setPending [op]) with
  | .next t => some t.reply
  | .fault _ => none
  | .refused _ => none

/-- The straps after one operation. -/
def strapsAfter (s : State) (op : Operation) : Option Straps :=
  match step (s.setPending [op]) with
  | .next t => some t.straps
  | .fault _ => none
  | .refused _ => none

/-- S3, first row. -/
theorem test_load_undersized :
    replyTo State.reset (.load (request 0x3FFF (some .mbc1) 0 false false)) = some (.loadFailed .undersized) := by decide
/-- R237: the size is looked at first. -/
theorem test_load_first_cause :
    replyTo State.reset (.load (request 0x3FFF none 0 false true)) = some (.loadFailed .undersized) := by decide
/-- R202. -/
theorem test_load_unsupported :
    replyTo State.reset (.load (request 0x8000 none 0 false true)) = some (.loadFailed .unsupportedMapper) := by decide
/-- R200 step 7. -/
theorem test_load_read_failure :
    replyTo State.reset (.load (request 0x8000 (some .mbc5) 0 false true)) = some (.loadFailed .readFailure) := by decide
/-- Section 2.6: `MBC1 rom=64 ram=0` with `multicartCompat = true` gives the quirk. -/
theorem test_load_quirk :
    strapsAfter State.reset (.load (request 0x100000 (some .mbc1) 0 true false)) = some (cart .mbc1 64 0 false true) := by decide
/-- Section 2.6: the same with `ram=1`, with `rom=32`, with MBC3 or without compatibility has no quirk. -/
theorem test_quirk_cases : quirkValue 0 64 .mbc1 true = true ∧ quirkValue 1 64 .mbc1 true = false
    ∧ quirkValue 0 32 .mbc1 true = false ∧ quirkValue 0 128 .mbc1 true = false ∧ quirkValue 0 64 .mbc3 true = false
    ∧ quirkValue 0 64 .mbc1 false = false := by decide
/-- R46, R47 after a LOAD: S6's cartridge. -/
theorem test_load_reset :
    after State.beforeLoad (.load (request 0x20000 (some .mbc1) 0 false false))
      = some ⟨1, 0, false, false, 1, 0, ⟨false, false, 0⟩⟩ := by decide
/-- A request whose header has an RTC on MBC5, which no loader makes (R8 (c)). -/
def rtcOnMbc5 : LoadRequest := ⟨⟨0x8000, []⟩, ⟨some .mbc5, 4, false, false, true⟩, false, false, false⟩
/-- Two whole banks of an image of 0x8001 bytes, and what the ROM buffer holds of it (R200 step 5). -/
def twoBanks : List Host.Cell := Memory.fillRom [(0x0000, 0x31), (0x7FFF, 0x42), (0x8000, 0x77)] (wholeBanks 0x8001 * 0x4000)
theorem test_fillRom : Memory.read .rom twoBanks 0x0000 = some 0x31 ∧ Memory.read .rom twoBanks 0x7FFF = some 0x42
    ∧ Memory.read .rom twoBanks 0x8000 = some 0xFF ∧ Memory.read .rom twoBanks 0x4000 = some 0xFF := by decide
/-- R48: a write before any LOAD has no move. -/
theorem test_write_before_load : after State.beforeLoad (.wr 0x2100 0x05) = none := by decide

/-! ### The pseudo-operations (R104) -/

theorem test_ramOn : Pseudo.expand .mbc2 .ramOn = [(0x0100, 0x0A)] ∧ Pseudo.expand .mbc5 .ramOn = [(0x0000, 0x0A)] := by decide
/-- PRG4 steps 1 and 2. -/
theorem test_romBank5 : Pseudo.expand .mbc5 (.romBank5 0x134) = [(0x2000, 0x34), (0x3000, 0x01)] := by decide

/-! ### Reads through the windows (R67 to R69) -/

/-- A byte of ROM bank 5 read through the high window of S6's cartridge. -/
theorem test_read_high_window :
    ((before (cart .mbc1 8 0 false false) 5 0 false false).setRom [(0x14002, 0x77)]).memRead 0x4002 = .byte 0x77 := by decide
/-- The low window of the multicart of VH.1 shows bank 0x20. -/
theorem test_read_low_window :
    ((before (cart .mbc1 64 0 false true) 0x041 0 false true).setRom [(0x80003, 0x12)]).memRead 0x0003 = .byte 0x12 := by decide
/-- The RAM of V42.14's cartridge with one byte written in bank 2. -/
def mbc5Ram : State := (before (cart .mbc5 64 4 false false) 1 0xE true false).setRam [(0x4001, 0x55)]
/-- RAM bank 2 through the RAM window, and nothing defined once RAM is disabled. -/
theorem test_read_ram_window :
    mbc5Ram.memRead 0xA001 = .byte 0x55
    ∧ ((before (cart .mbc5 64 4 false false) 1 0xE false false).setRam [(0x4001, 0x55)]).memRead 0xA001 = .unspecified := by
  decide
/-- Nothing is defined after a late read failure (U18), in a window or in the save-data blob. -/
theorem test_read_after_read_failure :
    (takeLoadError .readFailure mbc5Ram).memRead 0xA001 = .unspecified
    ∧ savedata (takeLoadError .readFailure mbc5Ram) = none ∧ savedataSize mbc5Ram = some 0x8000 := by decide
/-- A write into the RAM window lands in the visible bank. -/
theorem test_write_ram_window :
    (ramWindowWrite 0x0001 0x66 (before (cart .mbc5 64 4 false false) 1 0xE true false)).ram = [(0x4001, 0x66)] := by decide

/-! ### Witnesses: a state and operands that meet all the hypotheses of each statement together -/

def mbc1Std : State := before (cart .mbc1 128 4 false false) 0x065 2 true false
def mbc1Ram : State := before (cart .mbc1 128 4 false false) 0x065 2 true true
def mbc1Multi : State := before (cart .mbc1 64 0 false true) 0x065 0 false false
def mbc1MultiRam : State := before (cart .mbc1 64 0 false true) 0x065 0 false true
def mbc2State : State := before (cart .mbc2 16 1 false false) 7 0 true false
def mbc3State : State := before (cart .mbc3 64 4 false false) 0x45 2 true false
def mbc5State : State := before (cart .mbc5 64 4 false false) 0x140 0xE true false
def plainState : State := before (cart .plain 2 1 false false) 1 0 true false

theorem witness_DecodeUndoesEncode :
    (Instr.mbc3Ramb 0 0x08).wellFormed = true ∧ (Instr.mbc3Ramb 0 0x08).readUnder .mbc3 = true := by decide
theorem witness_DecodeFollowsTheAddressMap :
    0x8000 ≤ (0x8000 : Addr).toNat ∧ (0x1FFF : Addr).toNat < 0x2000
    ∧ (0x2000 ≤ (0x3FFF : Addr).toNat ∧ (0x3FFF : Addr).toNat < 0x4000)
    ∧ (0x4000 ≤ (0x4000 : Addr).toNat ∧ (0x5FFF : Addr).toNat < 0x6000)
    ∧ (0x6000 ≤ (0x6000 : Addr).toNat ∧ (0x7FFF : Addr).toNat < 0x8000) := by decide
theorem witness_DontCareBitsHaveNoEffect :
    ∃ r, (decode .mbc1 0x210005).row = some r ∧ (0x210005 : BusWord) &&& r.care = 0x3FFFE5 &&& r.care :=
  ⟨⟨"MBC1.ROMLO", some .mbc1, 0xE00000, 0x200000, 0x00001F⟩, by decide, by decide⟩
theorem witness_RomSelectBucketsShareOneHandler :
    0x2000 ≤ (0x2FFF : Addr).toNat ∧ (0x2FFF : Addr).toNat < 0x3000
    ∧ decode .mbc2 (busWord (0x2FFF + 0x1000) 0x13) = .mbc2Romb 3 := by decide
theorem witness_StepRunsTheDecodedWrite :
    (mbc5State.setPending [.wr 0x2000 0x41]).pending = .wr 0x2000 0x41 :: []
    ∧ (mbc5State.setPending [.wr 0x2000 0x41]).cartridgeActive = true ∧ 0xFFFFFF < 2 ^ 24 := by decide
theorem witness_NothingPresentedNothingChanges : mbc1Std.pending = [] := by decide
theorem witness_BusWritesRaiseNothing :
    Instr.mbc2Nop1 ∈ ignoredRows ∧ (mbc2State.setPending [.wr 0x2000 0x03]).pending = .wr 0x2000 0x03 :: []
    ∧ (mbc2State.setPending [.wr 0x2000 0x03]).cartridgeActive = true := by decide
theorem witness_OnlyLoadRunsBeforeALoad :
    (State.beforeLoad.setPending [.capture]).pending = .capture :: []
    ∧ (State.beforeLoad.setPending [.capture]).cartridgeActive = false ∧ Operation.capture.isLoad = false := by decide
theorem witness_IgnoredAddressesChangeNothing :
    (mbc2State.setPending [.wr 0x4000 0x01]).pending = .wr 0x4000 0x01 :: []
    ∧ (mbc2State.setPending [.wr 0x4000 0x01]).cartridgeActive = true
    ∧ ignoredAt (mbc2State.setPending [.wr 0x4000 0x01]).straps.variant 0x4000 :=
  ⟨rfl, rfl, Or.inr (Or.inl (by decide))⟩
theorem witness_IgnoredAddresses_ends :
    ignoredAt .plain 0x2000 ∧ ignoredAt .mbc2 0x3EFF ∧ ignoredAt .mbc5 0x6000 ∧ ignoredAt .mbc1 0x8000
    ∧ ¬ ignoredAt .mbc2 0x3FFF ∧ ¬ ignoredAt .mbc5 0x5FFF := by
  simp [ignoredAt]
theorem witness_Mbc2NeedsAddressBitEight :
    (0x3EFF : Addr).toNat < 0x4000 ∧ ¬ gateOpen 0x3EFF ∧ (0x1E00 : Addr).toNat < 0x2000 ∧ ¬ gateOpen 0x1E00 := by decide
theorem witness_RegionThreeIgnoredByThreeVariants :
    0x6000 ≤ (0x6000 : Addr).toNat ∧ 0x6000 ≤ (0x7FFF : Addr).toNat ∧ (0x7FFF : Addr).toNat < 0x8000 := by decide
theorem witness_RamEnableWriteEffect :
    Instr.mbc3Ramen 0xA ∈ ramEnableRows 0xA ∧ Instr.mbc2Ramen 0xB ∈ ramEnableRows 0xB
    ∧ rtcEnabled.straps.hasRtc = true ∧ mbc2State.straps.hasRtc = false := by decide
theorem witness_OnlyRegionZeroWritesRamEnabled :
    (∀ n, Instr.mbc5Ramb 0xF ∉ ramEnableRows n) ∧ ∃ t, exec (.mbc5Ramb 0xF) mbc5State = .next t := ⟨by decide, _, rfl⟩
theorem witness_Mbc1RomloEffect :
    mbc1Std.straps.variant = .mbc1 ∧ (mbc1Ram.bankingMode = true ∧ mbc1Ram.straps.multi64Quirk = false)
    ∧ (mbc1MultiRam.bankingMode = true ∧ mbc1MultiRam.straps.multi64Quirk = true) := by decide
theorem witness_Mbc2RombEffect :
    0x2000 ≤ (0x2100 : Addr).toNat ∧ (0x3FFF : Addr).toNat < 0x4000 ∧ gateOpen 0x2100 ∧ gateOpen 0x3FFF
    ∧ mbc2State.straps.variant = .mbc2 := by decide
theorem witness_Mbc3RombEffect :
    0x2000 ≤ (0x2000 : Addr).toNat ∧ (0x3FFF : Addr).toNat < 0x4000 ∧ mbc3State.straps.variant = .mbc3 := by decide
theorem witness_Mbc5RomloEffect : mbc5State.straps.variant = .mbc5 := by decide
theorem witness_Mbc5RomhiEffect : mbc5State.straps.variant = .mbc5 ∧ mbc5State.romBankSelect.toNat % 256 = 0x40 := by decide
theorem witness_Mbc5BankNumberInEitherOrder :
    mbc5State.straps.variant = .mbc5 ∧ (0x134 : BitVec 9).extractLsb' 0 8 = 0x34 := by decide
theorem witness_RegionOneRefreshesAtOnce :
    mbc5State.straps.wellFormed = true ∧ mbc5State.straps.variant = .mbc5
    ∧ (∃ t, exec (.mbc5Romlo 0x41) mbc5State = .next t) ∧ (∃ t, exec (.mbc1Romlo 0x03) mbc1MultiRam = .next t)
    ∧ mbc1MultiRam.straps.wellFormed = true := ⟨by decide, by decide, ⟨_, rfl⟩, ⟨_, rfl⟩, by decide⟩
theorem witness_Mbc1Bank2Effect :
    mbc1Ram.straps.variant = .mbc1 ∧ mbc1Ram.bankingMode = true ∧ mbc1Ram.straps.multi64Quirk = false
    ∧ mbc1Std.bankingMode = false ∧ mbc1Multi.straps.multi64Quirk = true ∧ mbc1Multi.bankingMode = false
    ∧ mbc1MultiRam.bankingMode = true ∧ mbc1MultiRam.straps.multi64Quirk = true := by decide
theorem witness_Mbc3RambEffect : rtcEnabled.straps.hasRtc = true ∧ mbc3State.straps.hasRtc = false := by decide
theorem witness_Mbc1ModeEffect :
    mbc1Std.straps.variant = .mbc1 ∧ mbc1Std.straps.multi64Quirk = false ∧ mbc1Multi.straps.multi64Quirk = true
    ∧ (1 : BitVec 1).toNat = 1 ∧ (0 : BitVec 1).toNat = 0 := by decide
theorem witness_RegionTwoAndThreeFrames :
    (∃ t, exec (decode .mbc3 (busWord 0x5FFF 0x08)) mbc3State = .next t)
    ∧ (∃ t, exec (decode .mbc1 (busWord 0x6000 0x01)) mbc1Std = .next t)
    ∧ 0x4000 ≤ (0x5FFF : Addr).toNat ∧ 0x6000 ≤ (0x6000 : Addr).toNat := ⟨⟨_, rfl⟩, ⟨_, rfl⟩, by decide, by decide⟩
theorem witness_TheSameWriteTwiceIsOneWrite :
    ∃ t u, exec (.mbc1Bank2 2) mbc1MultiRam = .next t ∧ exec (.mbc1Bank2 2) t = .next u := ⟨_, _, rfl, rfl⟩
theorem witness_OnlyLoadWritesTheStraps :
    (∃ t, step (State.reset.setPending [.load (request 0x100000 (some .mbc1) 0 true false)]) = .next t ∧ t.reply = .loaded)
    ∧ (∃ t, step (mbc1Std.setPending [.restore ⟨0x1FF, 0xF, true, true, []⟩]) = .next t)
    ∧ (∃ t, exec (.mbc1Mode 1) mbc1Std = .next t) ∧ (∃ t, present (.ramWrite 0 0x66) mbc1Std = .next t)
    ∧ ∃ t, loadStep (request 0x100000 (some .mbc1) 0 true false) mbc1Std = .next t ∧ t.reply = .loaded :=
  ⟨⟨_, rfl, rfl⟩, ⟨_, rfl⟩, ⟨_, rfl⟩, ⟨_, rfl⟩, _, rfl, rfl⟩
theorem witness_QuirkIsSetOnlyByLoad :
    (∃ t, step (State.reset.setPending [.load (request 0x100000 (some .mbc1) 0 true false)]) = .next t ∧ t.reply = .loaded
      ∧ t.straps.multi64Quirk = true)
    ∧ (∃ t, step (State.reset.setPending [.load (request 0x100000 (some .mbc3) 0 true false)]) = .next t ∧ t.reply = .loaded
      ∧ t.straps.multi64Quirk = false)
    ∧ (∃ t, step (mbc1Multi.setPending [.capture]) = .next t)
    ∧ savedStateOf (mbc1Multi.setStraps { mbc1Multi.straps with multi64Quirk := false }) = savedStateOf mbc1Multi := ⟨⟨_, rfl, rfl, rfl⟩, ⟨_, rfl, rfl, rfl⟩, ⟨_, rfl⟩, rfl⟩
theorem witness_StepKeepsTheInvariant :
    (mbc1Multi.setPending [.wr 0x6000 0x01]).Inv ∧ ∃ t, step (mbc1Multi.setPending [.wr 0x6000 0x01]) = .next t :=
  ⟨by decide, _, rfl⟩
theorem witness_StepKeepsWriteReach :
    (mbc1Multi.setPending [.wr 0x6000 0x01]).inWriteReach
    ∧ (∀ op rest, (mbc1Multi.setPending [.wr 0x6000 0x01]).pending = op :: rest → op.isRestore = false)
    ∧ ∃ t, step (mbc1Multi.setPending [.wr 0x6000 0x01]) = .next t :=
  ⟨⟨by decide, by decide⟩, fun _ _ h => by cases h; rfl, _, rfl⟩
theorem witness_RomBankIsBelowTheBankCount : mbc1MultiRam.Inv ∧ mbc1MultiRam.romBank = 0x35 := by decide
theorem witness_WhenTheHighWindowShowsBankZero :
    (mbc5State.Inv ∧ mbc5State.inWriteReach ∧ mbc5State.romBank = 0) ∧ (plainState.Inv ∧ plainState.inWriteReach)
    ∧ (mbc2State.Inv ∧ mbc2State.inWriteReach) :=
  ⟨⟨by decide, rfl, by decide⟩, ⟨by decide, by decide, by decide, rfl⟩, ⟨by decide, by decide, by decide, rfl⟩⟩
theorem witness_MulticartIgnoresBitFour :
    mbc1MultiRam.straps.variant = .mbc1 ∧ mbc1MultiRam.straps.multi64Quirk = true ∧ mbc1MultiRam.bankingMode = true
    ∧ (∃ t, exec (.mbc1Romlo 0x13) mbc1MultiRam = .next t) ∧ ∃ u, exec (.mbc1Romlo (0x13 ^^^ 0x10)) mbc1MultiRam = .next u :=
  ⟨by decide, by decide, by decide, ⟨_, rfl⟩, ⟨_, rfl⟩⟩
theorem witness_BytesChangeOnlyWhereWritten :
    Memory.wf .ram mbc5State.ram ∧ (Operation.ramWrite 0x0001 0x66).isLoad = false
    ∧ mbc5State.ramTarget 0x0001 = some 0x4001 ∧ ∃ t, step (mbc5State.setPending [.ramWrite 0x0001 0x66]) = .next t :=
  ⟨by decide, rfl, by decide, _, rfl⟩
theorem witness_RamWindowWriteEffect :
    mbc5State.cartridgeActive = true ∧ Memory.wf .ram mbc5State.ram ∧ mbc5State.ramVis.enabled = true
    ∧ mbc5State.ramVis.rtcActive = false ∧ mbc5State.straps.ramBankCount ≠ 0 ∧ mbc1Multi.straps.ramBankCount = 0 := by decide
theorem witness_NextReadSeesTheNewBank :
    mbc1Multi.Inv ∧ mbc1Multi.buffersDefined = true ∧ (Instr.mbc1Mode 1).readUnder mbc1Multi.straps.variant = true
    ∧ (∃ t, exec (.mbc1Mode 1) mbc1Multi = .next t) ∧ (0x3FFF : Addr).toNat < 0x8000 ∧ (0x4000 : Addr).toNat < 0x8000 :=
  ⟨by decide, by decide, by decide, ⟨_, rfl⟩, by decide, by decide⟩
theorem witness_RamWindowReads :
    0xA000 ≤ (0xA000 : Addr).toNat ∧ (0xBFFF : Addr).toNat < 0xC000
    ∧ (refreshRam (rtcSwapActive 0x08 rtcEnabled)).ramVis.rtcActive = true
    ∧ (mbc1Multi.ramVis.rtcActive = false ∧ mbc1Multi.straps.ramBankCount = 0)
    ∧ (mbc5State.setRam [(0x4000, 0x55)]).ramByte (mbc5State.ramVis.bank * 0x2000 + ((0xA000 : Addr).toNat - 0xA000)) = some 0x55
    ∧ mbc5State.ramVis.enabled = true ∧ mbc5State.buffersDefined = true ∧ rtcEnabled.cartridgeActive = true := by decide
theorem witness_SelectorsTheContractFixes : rtcEnabled.straps.hasRtc = true ∧ (0x03 : Byte).toNat < 4 := by decide
theorem witness_CaptureAnswersTheRawRegisters :
    (mbc1Multi.setPending [.capture]).pending = .capture :: []
    ∧ (mbc1Multi.setPending [.capture]).cartridgeActive = true := ⟨rfl, rfl⟩
theorem witness_RestoreRederivesEveryLatch :
    (mbc2State.setPending [.restore ⟨0x1FF, 0xF, true, true, []⟩]).pending = .restore ⟨0x1FF, 0xF, true, true, []⟩ :: []
    ∧ mbc2State.cartridgeActive = true ∧ mbc2State.straps.wellFormed = true
    ∧ (mbc2State.straps.multi64Quirk = false → mbc2State.rom0Window = 0) := ⟨rfl, rfl, by decide, fun _ => rfl⟩
theorem witness_CaptureThenRestoreRoundTrips :
    mbc1MultiRam.Inv ∧ mbc1MultiRam.cartridgeActive = true
    ∧ ∃ t saved u, present .capture mbc1MultiRam = .next t ∧ t.reply = .captured saved
      ∧ present (.restore saved) t = .next u
      ∧ (mbc1MultiRam.straps.hasRtc = true → u.rtc.getActive = mbc1MultiRam.rtc.getActive) :=
  ⟨by decide, by decide, _, _, _, rfl, rfl, rfl, fun h => absurd h (by decide)⟩
/-- With the chip: whichever answer the RTC Model gives after the restore, one of the two selections had it before. -/
theorem witness_CaptureThenRestoreRoundTrips_chip :
    ∃ s t saved u, s.Inv ∧ s.cartridgeActive = true ∧ s.straps.hasRtc = true ∧ present .capture s = .next t
      ∧ t.reply = .captured saved ∧ present (.restore saved) t = .next u ∧ u.rtc.getActive = s.rtc.getActive := by
  cases h : Config.rtcAnswer (.restore (Config.rtcSaved 0) true :: [.newCartridge])
  · exact ⟨refreshRam (rtcEnabled.setRtc ⟨true, .ramBank, [.newCartridge]⟩), _, _, _, by decide, rfl, rfl, rfl, rfl, rfl, h⟩
  · exact ⟨refreshRam (rtcEnabled.setRtc ⟨true, .rtcRegister, [.newCartridge]⟩), _, _, _, by decide, rfl, rfl, rfl, rfl, rfl, h⟩
theorem witness_LoadResetsTheDecoder :
    0x4000 ≤ (request 0x4000 (some .mbc5) 4 false false).image.size
    ∧ (request 0x4000 (some .mbc5) 4 false false).header.variant = some .mbc5
    ∧ (request 0x4000 (some .mbc5) 4 false false).readFails = false
    ∧ ((request 0x4000 (some .mbc5) 4 false false).header.hasRtc = true → Variant.mbc5 = .mbc3) := by decide
theorem witness_FailedLoadLeavesTheDecoder :
    (request 0x3FFF (some .mbc1) 0 false false).image.size < 0x4000
    ∧ (request 0x8000 none 0 false false).header.variant = none
    ∧ (request 0x8000 (some .mbc1) 0 false true).readFails = true := by decide
theorem witness_IllFormedLoadIsRefused :
    0x4000 ≤ rtcOnMbc5.image.size ∧ rtcOnMbc5.header.variant = some .mbc5 ∧ rtcOnMbc5.readFails = false
    ∧ rtcOnMbc5.header.hasRtc = true ∧ Variant.mbc5 ≠ .mbc3 := by decide
theorem witness_ReadsBeforeALoadAreUnspecified :
    State.beforeLoad.cartridgeActive = false ∧ (0x7FFF : Addr).toNat < 0x8000
    ∧ 0xA000 ≤ (0xA000 : Addr).toNat ∧ (0xBFFF : Addr).toNat < 0xC000 := by decide
theorem witness_SavedataIsTheRamBuffer :
    mbc5State.cartridgeActive = true ∧ mbc5State.buffersIntact = true ∧ State.beforeLoad.cartridgeActive = false
    ∧ (takeLoadError .readFailure mbc5State).buffersIntact = false := by decide

end Sys2Proof.Tests
end

section
/-! PROOFS. The family of spec/00_scope.md: one step, the invariant every step keeps, and the LOADs that are refused. -/

namespace Sys2Proof.Machine

/-! ### One step -/

/-- With nothing presented the step answers the same state. -/
theorem step_of_pending_nil {s : State} (hp : s.pending = []) : step s = .next s := by
  simp only [step, stepPending, hp]

/-- The step presents the first operation, taken off the list. -/
theorem step_of_pending_cons {s : State} {op : Operation} {rest : List Operation} (hp : s.pending = op :: rest) :
    step s = present op (s.setPending rest) := by
  simp only [step, stepPending, hp]

/-- On an active cartridge a bus write runs the operation its word decodes to. -/
theorem present_wr_of_active {s : State} (ha : s.cartridgeActive = true) (a : Addr) (d : Byte) :
    present (.wr a d) s = exec (decode s.straps.variant (busWord a d)) s := by
  simp [present, whenActive, ha]

@[simp] theorem placeWord_pending (w : BusWord) (s : State) :
    (placeWord w s).pending = .wr (addrOf w) (dataOf w) :: s.pending := rfl

/-- Taking a placed word off the list gives the state back. -/
theorem setPending_placeWord {s : State} (ha : s.cartridgeActive = true) (w : BusWord) :
    (placeWord w s).setPending s.pending = s := by
  simp only [placeWord, State.setPending, State.setCartridgeActive, ← ha]

theorem tableWord_full {w : Nat} (hw : w < 2 ^ 24) : tableWord 24 w = BitVec.ofNat 24 w := by
  simp only [tableWord, Nat.mod_eq_of_lt hw]

/-- Settles O9: the empty list of operations. -/
theorem nothingPresentedNothingChanges : Obligations.NothingPresentedNothingChanges :=
  fun _ hp => step_of_pending_nil hp

/-- Settles O8: the step is `present` of the first operation, and a placed word is the write of its address and data. -/
theorem stepRunsTheDecodedWrite : Obligations.StepRunsTheDecodedWrite := by
  refine ⟨fun s a d rest hp ha => ?_, fun s w hw ha => ?_⟩
  · rw [step_of_pending_cons hp, present_wr_of_active (by simpa using ha), State.setPending_straps]
  · rw [State.withFetchWord, tableWord_full hw, step_of_pending_cons (placeWord_pending _ s), setPending_placeWord ha,
      present_wr_of_active ha, busWord_addrOf_dataOf]

/-! ### LOADs of configurations no loader makes -/

/-- R8 (c): an RTC on a variant other than MBC3 is ill formed. -/
theorem wellFormed_eq_false_of_rtc {c : Straps} (hr : c.hasRtc = true) (hv : c.variant ≠ .mbc3) :
    c.wellFormed = false := by
  rw [Bool.eq_false_iff]
  intro hw
  obtain ⟨-, -, -, hrtc⟩ := (straps_wellFormed_iff c).1 hw
  exact hv (hrtc hr)

/-- Settles O51: the straps such a LOAD computes break R8 (c). -/
theorem illFormedLoadIsRefused : Obligations.IllFormedLoadIsRefused := by
  intro s r v rest hp hsize hv hread hrtc hne
  have hw : (strapsOf v r).wellFormed = false := wellFormed_eq_false_of_rtc hrtc hne
  rw [step_of_pending_cons hp]
  show loadStep r (s.setPending rest) = _
  rw [loadStep_of_no_cause _ hsize hv hread, hw]
  simp

/-! ### The ROM windows stay below the bank count -/

theorem viewRomBank_lt {s : State} (hw : s.straps.wellFormed = true) : s.viewRomBank < s.straps.romBankCount := by
  unfold State.viewRomBank
  split
  · rename_i hm
    rw [(quirk_facts hw hm.2).1]
    exact multicartBank_lt _
  · exact standardBank_lt _ _ (romBankCount_pos hw)

theorem viewRom0Window_lt {s : State} (hw : s.straps.wellFormed = true) :
    s.viewRom0Window < s.straps.romBankCount := by
  unfold State.viewRom0Window
  split
  · rename_i hm
    rw [(quirk_facts hw hm.2).1]
    omega
  · exact romBankCount_pos hw

/-- Settles O37: both windows show the view, and the view is below the bank count. -/
theorem romBankIsBelowTheBankCount : Obligations.RomBankIsBelowTheBankCount := by
  rintro s ⟨hw, ⟨hbank, hlow, -⟩, -, -⟩
  exact ⟨hbank ▸ viewRomBank_lt hw, hlow ▸ viewRom0Window_lt hw⟩

/-! ### The parts of the invariant -/

/-- The part of the invariant that reads no register and no latch. -/
def State.StrapsAndBuffersOk (s : State) : Prop :=
  s.straps.wellFormed = true ∧ Memory.wf .rom s.rom ∧ Memory.wf .ram s.ram

/-- The part of the view on the ROM side. -/
def State.ShowsRomView (s : State) : Prop :=
  s.romBank = s.viewRomBank ∧ s.rom0Window = s.viewRom0Window

theorem inv_iff (s : State) :
    s.Inv ↔ s.StrapsAndBuffersOk ∧ s.ShowsRomView ∧ s.ramVis = s.viewRamVis := by
  unfold State.StrapsAndBuffersOk State.ShowsRomView
  tauto

/-- The ROM side of the view reads the ROM mapping, the mode and the straps alone. -/
theorem State.ShowsRomView.of_same {s t : State} (h : s.ShowsRomView) (hmap : SameRomMapping s t)
    (hmode : t.bankingMode = s.bankingMode) (hstraps : t.straps = s.straps) : t.ShowsRomView := by
  obtain ⟨hsel, hbank, hlow⟩ := hmap
  simpa only [State.ShowsRomView, State.viewRomBank, State.viewRom0Window, hsel, hbank, hlow, hmode, hstraps] using h

theorem State.StrapsAndBuffersOk.of_same {s t : State} (h : s.StrapsAndBuffersOk) (hstraps : t.straps = s.straps)
    (hrom : t.rom = s.rom) (hram : t.ram = s.ram) : t.StrapsAndBuffersOk := by
  simpa only [State.StrapsAndBuffersOk, hstraps, hrom, hram] using h

/-- Without the multicart wiring the low window shows bank 0. -/
theorem rom0Window_eq_zero {s : State} (h : s.ShowsRomView) (hq : s.straps.multi64Quirk = false) : s.rom0Window = 0 := by
  simp [h.2, State.viewRom0Window, hq]

/-- R29: the multicart wiring is on MBC1 alone. -/
theorem quirk_eq_false {c : Straps} (hw : c.wellFormed = true) (hv : c.variant ≠ .mbc1) : c.multi64Quirk = false :=
  Bool.eq_false_iff.2 fun hq => hv (quirk_facts hw hq).2

/-! ### What a refresh establishes -/

/-- After the standard refresh off the multicart path, if the low window is at bank 0. -/
theorem refreshRomStd_showsRomView {s : State} (hm : multicartPath s = false) (h0 : s.rom0Window = 0) :
    (refreshRomStd s).ShowsRomView := by
  have hm' : ¬ (s.bankingMode = true ∧ s.straps.multi64Quirk = true) := by simpa [multicartPath] using hm
  rw [refreshRomStd_eq]
  simp only [State.ShowsRomView, State.viewRomBank, State.viewRom0Window, hm', if_false, h0, and_self]

/-- After `RefreshROM` (R41), which leaves the low window of a cartridge without the wiring alone. -/
theorem refreshRom_showsRomView {s : State} (h0 : s.straps.multi64Quirk = false → s.rom0Window = 0) :
    (refreshRom s).ShowsRomView := by
  rw [refreshRom_eq]
  refine ⟨rfl, ?_⟩
  cases hq : s.straps.multi64Quirk with
  | true => rfl
  | false => simp [State.viewRom0Window, hq, h0 hq]

theorem refreshRom_of_multicartPath {s : State} (hm : multicartPath s = true) : refreshRom s = refreshRomMulti s :=
  if_pos hm

/-- `RefreshROM` writes the two ROM latches alone, so it completes the invariant when the rest of it holds. -/
theorem refreshRom_inv {s : State} (hok : s.StrapsAndBuffersOk) (h0 : s.straps.multi64Quirk = false → s.rom0Window = 0)
    (hvis : s.ramVis = s.viewRamVis) : (refreshRom s).Inv := by
  refine (inv_iff _).2 ⟨?_, refreshRom_showsRomView h0, ?_⟩
  all_goals rw [refreshRom_eq]
  · exact hok
  · exact hvis

/-- `RefreshRAM` writes the RAM latch alone, so it completes the invariant when the rest of it holds. -/
theorem refreshRam_inv {s : State} (hok : s.StrapsAndBuffersOk) (hrom : s.ShowsRomView) : (refreshRam s).Inv :=
  (inv_iff _).2 ⟨hok, hrom, rfl⟩

/-! ### Bus writes keep the invariant -/

/-- A RAM-side operation before `RefreshRAM` keeps the invariant: it leaves the straps, the buffers, the mode and the ROM mapping. -/
theorem refreshRam_keeps_inv {s t : State} (h : s.Inv) (hstraps : t.straps = s.straps) (hrom : t.rom = s.rom)
    (hram : t.ram = s.ram) (hmode : t.bankingMode = s.bankingMode) (hmap : SameRomMapping s t) : (refreshRam t).Inv := by
  obtain ⟨hok, hview, -⟩ := (inv_iff s).1 h
  exact refreshRam_inv (hok.of_same hstraps hrom hram) (hview.of_same hmap hmode hstraps)

/-- With or without the chip: `RamEnableWrite` ends in `RefreshRAM` (R120). -/
theorem ramEnableWrite_inv {s : State} (h : s.Inv) (n : BitVec 4) : (ramEnableWrite n s).Inv := by
  unfold ramEnableWrite
  dsimp only
  split <;> exact refreshRam_keeps_inv h rfl rfl rfl rfl ⟨rfl, rfl, rfl⟩

/-- A new bank number followed by `RefreshROM`. -/
theorem refreshRom_setRomBankSelect_inv {s : State} (h : s.Inv) (r : BitVec 9) :
    (refreshRom (s.setRomBankSelect r)).Inv := by
  obtain ⟨hok, hview, hvis⟩ := (inv_iff s).1 h
  have h0 : s.straps.multi64Quirk = false → s.rom0Window = 0 := rom0Window_eq_zero hview
  exact refreshRom_inv hok h0 hvis

/-- A new bank number followed by the standard refresh, on a variant that has no multicart wiring. -/
theorem refreshRomStd_setRomBankSelect_inv {s : State} (h : s.Inv) (hv : s.straps.variant ≠ .mbc1) (r : BitVec 9) :
    (refreshRomStd (s.setRomBankSelect r)).Inv := by
  have hq : s.straps.multi64Quirk = false := quirk_eq_false h.1 hv
  have heq : refreshRom (s.setRomBankSelect r) = refreshRomStd (s.setRomBankSelect r) := by
    simp [refreshRom, multicartPath, hq]
  exact heq ▸ refreshRom_setRomBankSelect_inv h r

/-- A new banking mode, with `RefreshROM` on a multicart cartridge (R190). -/
theorem setBankingMode_inv {s : State} (h : s.Inv) (b : Bool) :
    (if s.straps.multi64Quirk = true then refreshRom (s.setBankingMode b) else s.setBankingMode b).Inv := by
  obtain ⟨hok, hview, hvis⟩ := (inv_iff s).1 h
  have h0 : s.straps.multi64Quirk = false → s.rom0Window = 0 := rom0Window_eq_zero hview
  split
  · exact refreshRom_inv hok h0 hvis
  · rename_i hq
    refine (inv_iff _).2 ⟨hok, ?_, hvis⟩
    simpa [State.ShowsRomView, State.viewRomBank, State.viewRom0Window, hq] using hview

/-- The three sub-cases of R170. -/
theorem execMbc1Bank2_inv {s : State} (h : s.Inv) (u : BitVec 2) : ∃ t, execMbc1Bank2 u s = .next t ∧ t.Inv := by
  refine ⟨_, rfl, ?_⟩
  split
  · rename_i hb
    split
    · exact refreshRam_keeps_inv h rfl rfl rfl rfl ⟨rfl, rfl, rfl⟩
    · rename_i hq
      have hm : multicartPath (s.setRomBankSelect (mergeUpperTwo s.romBankSelect u)) = true := by
        simpa [multicartPath, hb] using hq
      rw [← refreshRom_of_multicartPath hm]
      exact refreshRom_setRomBankSelect_inv h _
  · exact refreshRom_setRomBankSelect_inv h _

/-- With or without the chip: `MBC3.RAMB` ends in `RefreshRAM` (R173). -/
theorem execMbc3Ramb_inv {s : State} (h : s.Inv) (u : BitVec 2) (sel : Byte) :
    ∃ t, execMbc3Ramb u sel s = .next t ∧ t.Inv := by
  refine ⟨_, rfl, ?_⟩
  split <;> exact refreshRam_keeps_inv h rfl rfl rfl rfl ⟨rfl, rfl, rfl⟩

/-- An operation of a variant is read under that strap alone. -/
theorem eq_variant_of_readUnder {i : Instr} {v w : Variant} (h : i.readUnder w = true) (hi : i.variant = some v) :
    w = v := by
  have hvw : v = w := by simpa [Instr.readUnder, hi] using h
  exact hvw.symm

/-- A bus write read under the strap completes and keeps the invariant. -/
theorem exec_inv {s : State} (h : s.Inv) (i : Instr) (hi : i.readUnder s.straps.variant = true) :
    ∃ t, exec i s = .next t ∧ t.Inv := by
  have hne {v : Variant} (hv : i.variant = some v) (hv1 : v ≠ .mbc1) : s.straps.variant ≠ .mbc1 :=
    eq_variant_of_readUnder hi hv ▸ hv1
  cases i with
  | plainNop1 | plainNop2 | plainNop3 | mbc2Nop0 | mbc2Nop1 | mbc2Nop2 | mbc2Nop3 | mbc5Nop3 | anyNosel =>
    exact ⟨s, rfl, h⟩
  | plainRamen n | mbc1Ramen n | mbc2Ramen n | mbc3Ramen n | mbc5Ramen n => exact ⟨_, rfl, ramEnableWrite_inv h n⟩
  | mbc1Romlo b => exact ⟨_, rfl, refreshRom_setRomBankSelect_inv h _⟩
  | mbc2Romb b | mbc3Romb b | mbc5Romlo b | mbc5Romhi b =>
    exact ⟨_, rfl, refreshRomStd_setRomBankSelect_inv h (hne rfl (by decide)) _⟩
  | mbc1Bank2 u => exact execMbc1Bank2_inv h u
  | mbc1Mode m => exact ⟨_, rfl, setBankingMode_inv h _⟩
  | mbc3Ramb u sel => exact execMbc3Ramb_inv h u sel
  | mbc3Latch l => exact ⟨rtcLatch l s, rfl, h⟩
  | mbc5Ramb u => exact ⟨_, rfl, refreshRam_keeps_inv h rfl rfl rfl rfl ⟨rfl, rfl, rfl⟩⟩

/-! ### The decoder answers operations of its own strap (R94, R96) -/

theorem readUnder_of_variant {i : Instr} {v : Variant} (h : i.variant = some v) : i.readUnder v = true := by
  simp [Instr.readUnder, h]

theorem decodeRegion0_variant (v : Variant) (a : Addr) (d : Byte) : (decodeRegion0 v a d).variant = some v := by
  cases v with
  | mbc2 => cases h : bitEight a <;> simp [decodeRegion0, h, Instr.variant]
  | plain | mbc1 | mbc3 | mbc5 => rfl

theorem decodeBucket3_variant (v : Variant) (a : Addr) (d : Byte) : (decodeBucket3 v a d).variant = some v := by
  cases v with
  | mbc2 => cases h : bitEight a <;> simp [decodeBucket3, h, Instr.variant]
  | plain | mbc1 | mbc3 | mbc5 => rfl

theorem decodeBucket2_variant (v : Variant) (a : Addr) (d : Byte) : (decodeBucket2 v a d).variant = some v := by
  cases v with
  | plain | mbc5 => rfl
  | mbc1 | mbc2 | mbc3 => simp only [decodeBucket2, decodeBucket3_variant]

theorem decodeRegion2_variant (v : Variant) (d : Byte) : (decodeRegion2 v d).variant = some v := by
  cases v <;> rfl

theorem decodeRegion3_variant (v : Variant) (d : Byte) : (decodeRegion3 v d).variant = some v := by
  cases v <;> rfl

theorem decode_readUnder (v : Variant) (w : BusWord) : (decode v w).readUnder v = true := by
  unfold decode decodeWrite
  split
  · rfl
  · split
    · exact readUnder_of_variant (decodeRegion0_variant ..)
    · exact readUnder_of_variant (decodeRegion0_variant ..)
    · exact readUnder_of_variant (decodeBucket2_variant ..)
    · exact readUnder_of_variant (decodeBucket3_variant ..)
    · exact readUnder_of_variant (decodeRegion2_variant ..)
    · exact readUnder_of_variant (decodeRegion2_variant ..)
    · exact readUnder_of_variant (decodeRegion3_variant ..)

/-! ### Host operations keep the invariant -/

/-- LOAD's reset shows the view of the reset registers, whatever the latches held (R209). -/
theorem resetDecoder_inv {s : State} (hok : s.StrapsAndBuffersOk) : (resetDecoder s).Inv :=
  refreshRam_inv hok (refreshRomStd_showsRomView rfl rfl)

theorem installCartridge_ok {c : Straps} (hc : c.wellFormed = true) (r : LoadRequest) (s : State) :
    (installCartridge c r s).StrapsAndBuffersOk :=
  ⟨hc, Memory.fillRom_wf _ _, Memory.wf_nil .ram⟩

theorem loadStep_inv {s t : State} (h : s.Inv) {r : LoadRequest} (ht : loadStep r s = .next t) : t.Inv := by
  obtain ⟨cause, hc⟩ | ⟨v, -, hw, hc⟩ | hc := loadStep_cases r s
  · obtain rfl := Host.Outcome.next.inj (hc.symm.trans ht)
    exact h
  · obtain rfl := Host.Outcome.next.inj (hc.symm.trans ht)
    exact resetDecoder_inv (installCartridge_ok hw r s)
  · exact nomatch hc.symm.trans ht

/-- RESTORE refreshes both sides after the registers and the RTC Model, whatever the tuple (R207). -/
theorem restoreStep_inv {s : State} (h : s.Inv) (saved : SavedState) : (restoreStep saved s).Inv := by
  obtain ⟨hok, hview, -⟩ := (inv_iff s).1 h
  have h0 : s.straps.multi64Quirk = false → s.rom0Window = 0 := rom0Window_eq_zero hview
  exact refreshRom_inv hok h0 rfl

theorem ramWindowWrite_inv {s : State} (h : s.Inv) (o : BitVec 13) (d : Byte) : (ramWindowWrite o d s).Inv := by
  obtain heq | ⟨off, -, heq⟩ := ramWindowWrite_eq o d s
  · rwa [heq]
  · obtain ⟨hw, hview, hrom, hram⟩ := h
    rw [heq]
    exact ⟨hw, hview, hrom, Memory.write_wf hram off d⟩

/-- Every operation that answers a next state keeps the invariant. -/
theorem present_inv {s t : State} (h : s.Inv) {op : Operation} (ht : present op s = .next t) : t.Inv := by
  obtain ⟨r, -, hload⟩ | ⟨-, ⟨a, d, -, hexec⟩ | ⟨-, rfl⟩ | ⟨saved, -, rfl⟩ | ⟨o, d, -, rfl⟩⟩ := present_cases ht
  · exact loadStep_inv h hload
  · obtain ⟨u, hu, hinv⟩ := exec_inv h _ (decode_readUnder s.straps.variant (busWord a d))
    exact Host.Outcome.next.inj (hu.symm.trans hexec) ▸ hinv
  · exact h
  · exact restoreStep_inv h saved
  · exact ramWindowWrite_inv h o d

/-- Settles O33: by what the step can do, taking the operation off the list being invisible to the invariant. -/
theorem stepKeepsTheInvariant : Obligations.StepKeepsTheInvariant := by
  intro s t h hstep
  obtain ⟨-, rfl⟩ | ⟨op, rest, -, hop⟩ := step_cases hstep
  · exact h
  · exact present_inv (s := s.setPending rest) h hop

end Sys2Proof.Machine
end

section
/-! PROOFS. What every bus write leaves alone (spec/60_exceptions.md R230): the straps, the host's side and both buffers. -/

namespace Sys2Proof.Machine

theorem SameSurroundings.refl (s : State) : SameSurroundings s s :=
  ⟨rfl, rfl, rfl, rfl, rfl, rfl, rfl, fun _ => rfl, fun _ => rfl⟩

/-- The two ROM latches are no surroundings. -/
theorem sameSurroundings_refreshRom {s t : State} (h : SameSurroundings s t) :
    SameSurroundings s (refreshRom t) := by
  rw [refreshRom_eq]
  exact h

theorem ramEnableWrite_sameSurroundings (n : BitVec 4) (s : State) : SameSurroundings s (ramEnableWrite n s) := by
  rw [ramEnableWrite_eq]
  split <;> exact .refl s

/-- The three sub-cases of R170. -/
theorem execMbc1Bank2_sameSurroundings (u : BitVec 2) (s : State) :
    ∃ t, execMbc1Bank2 u s = .next t ∧ SameSurroundings s t := by
  refine ⟨_, rfl, ?_⟩
  split
  · split <;> exact .refl s
  · exact sameSurroundings_refreshRom (.refl s)

/-- Every bus write completes and leaves the surroundings alone. -/
theorem exec_sameSurroundings (i : Instr) (s : State) : ∃ t, exec i s = .next t ∧ SameSurroundings s t := by
  cases i with
  | plainNop1 | plainNop2 | plainNop3 | mbc2Nop0 | mbc2Nop1 | mbc2Nop2 | mbc2Nop3 | mbc5Nop3 | anyNosel =>
    exact ⟨s, rfl, .refl s⟩
  | plainRamen n | mbc1Ramen n | mbc2Ramen n | mbc3Ramen n | mbc5Ramen n =>
    exact ⟨_, rfl, ramEnableWrite_sameSurroundings n s⟩
  | mbc1Romlo b => exact ⟨_, rfl, sameSurroundings_refreshRom (.refl s)⟩
  | mbc2Romb b | mbc3Romb b | mbc5Romlo b | mbc5Romhi b | mbc3Latch b | mbc5Ramb b => exact ⟨_, rfl, .refl s⟩
  | mbc1Bank2 u => exact execMbc1Bank2_sameSurroundings u s
  | mbc1Mode m =>
    refine ⟨_, rfl, ?_⟩
    split
    · exact sameSurroundings_refreshRom (.refl s)
    · exact .refl s
  | mbc3Ramb u sel =>
    refine ⟨_, rfl, ?_⟩
    split <;> exact .refl s

theorem sameSurroundings_of_exec {i : Instr} {s t : State} (h : exec i s = .next t) : SameSurroundings s t := by
  obtain ⟨u, hu, hsame⟩ := exec_sameSurroundings i s
  exact Host.Outcome.next.inj (hu.symm.trans h) ▸ hsame

theorem exec_straps {i : Instr} {s t : State} (h : exec i s = .next t) : t.straps = s.straps :=
  (sameSurroundings_of_exec h).2.1

end Sys2Proof.Machine
end

section
/-! PROOFS. The values bus writes can reach (spec/10_state.md R25): every step but a RESTORE stays within them. -/

namespace Sys2Proof.Machine

/-! ### R25, read off for one variant -/

theorem inWriteReach_mbc1 {s : State} (hv : s.straps.variant = .mbc1) :
    s.inWriteReach ↔ s.romBankSelect.toNat ≤ 0x7F ∧ s.ramBankSelect.toNat ≤ 3 := by
  simp [State.inWriteReach, hv]

theorem inWriteReach_mbc2 {s : State} (hv : s.straps.variant = .mbc2) :
    s.inWriteReach ↔ s.romBankSelect.toNat ≤ 0x0F ∧ s.ramBankSelect.toNat = 0 ∧ s.bankingMode = false := by
  simp [State.inWriteReach, hv]

theorem inWriteReach_mbc3 {s : State} (hv : s.straps.variant = .mbc3) :
    s.inWriteReach ↔ s.romBankSelect.toNat ≤ 0x7F ∧ s.ramBankSelect.toNat ≤ 3 ∧ s.bankingMode = false := by
  simp [State.inWriteReach, hv]

theorem inWriteReach_mbc5 {s : State} (hv : s.straps.variant = .mbc5) :
    s.inWriteReach ↔ s.bankingMode = false := by
  simp [State.inWriteReach, hv]

theorem inWriteReach_of_mbc1 {s : State} (hv : s.straps.variant = .mbc1) (hrom : s.romBankSelect.toNat ≤ 0x7F)
    (hram : s.ramBankSelect.toNat ≤ 3) : s.inWriteReach :=
  (inWriteReach_mbc1 hv).2 ⟨hrom, hram⟩

theorem inWriteReach_of_mbc2 {s : State} (hv : s.straps.variant = .mbc2) (hrom : s.romBankSelect.toNat ≤ 0x0F)
    (hram : s.ramBankSelect.toNat = 0) (hmode : s.bankingMode = false) : s.inWriteReach :=
  (inWriteReach_mbc2 hv).2 ⟨hrom, hram, hmode⟩

theorem inWriteReach_of_mbc3 {s : State} (hv : s.straps.variant = .mbc3) (hrom : s.romBankSelect.toNat ≤ 0x7F)
    (hram : s.ramBankSelect.toNat ≤ 3) (hmode : s.bankingMode = false) : s.inWriteReach :=
  (inWriteReach_mbc3 hv).2 ⟨hrom, hram, hmode⟩

/-! ### R25 reads no latch -/

theorem refreshRom_inWriteReach (s : State) : (refreshRom s).inWriteReach ↔ s.inWriteReach := by
  rw [refreshRom_eq]
  rfl

theorem refreshRomStd_inWriteReach (s : State) : (refreshRomStd s).inWriteReach ↔ s.inWriteReach := Iff.rfl

theorem refreshRomMulti_inWriteReach (s : State) : (refreshRomMulti s).inWriteReach ↔ s.inWriteReach := Iff.rfl

theorem refreshRam_inWriteReach (s : State) : (refreshRam s).inWriteReach ↔ s.inWriteReach := Iff.rfl

/-! ### The register assemblies stay within R25 -/

theorem ramEnableWrite_inWriteReach {s : State} (h : s.inWriteReach) (n : BitVec 4) :
    (ramEnableWrite n s).inWriteReach := by
  rw [ramEnableWrite_eq]
  split <;> exact h

theorem replaceSelect_le {n : Nat} (hn : n ≤ 9) (b : BitVec n) : (replaceSelect b).toNat ≤ 2 ^ n - 1 := by
  rw [replaceSelect_toNat hn]
  have := b.isLt
  omega

theorem mergeLowFive_le {r : BitVec 9} (hr : r.toNat ≤ 0x7F) (b : BitVec 5) : (mergeLowFive r b).toNat ≤ 0x7F := by
  have := b.isLt
  rw [mergeLowFive_toNat]
  omega

theorem mergeUpperTwo_le {r : BitVec 9} (hr : r.toNat ≤ 0x7F) (u : BitVec 2) : (mergeUpperTwo r u).toNat ≤ 0x7F := by
  have := u.isLt
  rw [mergeUpperTwo_toNat]
  omega

theorem zextRamBank_le (u : BitVec 2) : (zextRamBank u).toNat ≤ 3 := by
  have := u.isLt
  rw [zextRamBank_toNat]
  omega

/-! ### The bus writes that load a bank register -/

/-- Replace or merge (R141): both stay within seven bits. -/
theorem execMbc1Romlo_inWriteReach {s : State} (h : s.inWriteReach) (hv : s.straps.variant = .mbc1) (b : BitVec 5) :
    ∃ t, execMbc1Romlo b s = .next t ∧ t.inWriteReach := by
  obtain ⟨hrom, hram⟩ := (inWriteReach_mbc1 hv).1 h
  refine ⟨_, rfl, (refreshRom_inWriteReach _).2
    (inWriteReach_of_mbc1 hv ?_ hram)⟩
  rw [State.setRomBankSelect_romBankSelect]
  split
  · exact (replaceSelect_le (by omega) b).trans (by omega)
  · exact mergeLowFive_le hrom b

/-- The three sub-cases of R170. -/
theorem execMbc1Bank2_inWriteReach {s : State} (h : s.inWriteReach) (hv : s.straps.variant = .mbc1) (u : BitVec 2) :
    ∃ t, execMbc1Bank2 u s = .next t ∧ t.inWriteReach := by
  obtain ⟨hrom, hram⟩ := (inWriteReach_mbc1 hv).1 h
  have hmerged : (s.setRomBankSelect (mergeUpperTwo s.romBankSelect u)).inWriteReach :=
    inWriteReach_of_mbc1 hv (mergeUpperTwo_le hrom u) hram
  refine ⟨_, rfl, ?_⟩
  split
  · split
    · exact (refreshRam_inWriteReach _).2
        (inWriteReach_of_mbc1 hv hrom (zextRamBank_le u))
    · exact (refreshRomMulti_inWriteReach _).2 hmerged
  · exact (refreshRom_inWriteReach _).2 hmerged

/-- MBC1 is bound to no mode. -/
theorem execMbc1Mode_inWriteReach {s : State} (h : s.inWriteReach) (hv : s.straps.variant = .mbc1) (m : BitVec 1) :
    ∃ t, execMbc1Mode m s = .next t ∧ t.inWriteReach := by
  obtain ⟨hrom, hram⟩ := (inWriteReach_mbc1 hv).1 h
  have hmode : (s.setBankingMode (modeValue m)).inWriteReach :=
    inWriteReach_of_mbc1 hv hrom hram
  refine ⟨_, rfl, ?_⟩
  split
  · exact (refreshRom_inWriteReach _).2 hmode
  · exact hmode

theorem execMbc2Romb_inWriteReach {s : State} (h : s.inWriteReach) (hv : s.straps.variant = .mbc2) (b : BitVec 4) :
    ∃ t, execMbc2Romb b s = .next t ∧ t.inWriteReach := by
  obtain ⟨-, hram, hmode⟩ := (inWriteReach_mbc2 hv).1 h
  exact ⟨_, rfl, (refreshRomStd_inWriteReach _).2
    (inWriteReach_of_mbc2 hv (replaceSelect_le (by omega) b) hram hmode)⟩

theorem execMbc3Romb_inWriteReach {s : State} (h : s.inWriteReach) (hv : s.straps.variant = .mbc3) (b : BitVec 7) :
    ∃ t, execMbc3Romb b s = .next t ∧ t.inWriteReach := by
  obtain ⟨-, hram, hmode⟩ := (inWriteReach_mbc3 hv).1 h
  exact ⟨_, rfl, (refreshRomStd_inWriteReach _).2
    (inWriteReach_of_mbc3 hv (replaceSelect_le (by omega) b) hram hmode)⟩

/-- With or without the chip: the register takes two bits (R173). -/
theorem execMbc3Ramb_inWriteReach {s : State} (h : s.inWriteReach) (hv : s.straps.variant = .mbc3) (u : BitVec 2)
    (sel : Byte) : ∃ t, execMbc3Ramb u sel s = .next t ∧ t.inWriteReach := by
  obtain ⟨hrom, -, hmode⟩ := (inWriteReach_mbc3 hv).1 h
  have hset : (s.setRamBankSelect (zextRamBank u)).inWriteReach :=
    inWriteReach_of_mbc3 hv hrom (zextRamBank_le u) hmode
  refine ⟨_, rfl, (refreshRam_inWriteReach _).2 ?_⟩
  split <;> exact hset

/-- A bus write read under the strap completes and stays within R25. -/
theorem exec_inWriteReach {s : State} (h : s.inWriteReach) (i : Instr) (hi : i.readUnder s.straps.variant = true) :
    ∃ t, exec i s = .next t ∧ t.inWriteReach := by
  have hv {v : Variant} (hiv : i.variant = some v) : s.straps.variant = v := eq_variant_of_readUnder hi hiv
  cases i with
  | plainNop1 | plainNop2 | plainNop3 | mbc2Nop0 | mbc2Nop1 | mbc2Nop2 | mbc2Nop3 | mbc5Nop3 | anyNosel =>
    exact ⟨s, rfl, h⟩
  | plainRamen n | mbc1Ramen n | mbc2Ramen n | mbc3Ramen n | mbc5Ramen n =>
    exact ⟨_, rfl, ramEnableWrite_inWriteReach h n⟩
  | mbc1Romlo b => exact execMbc1Romlo_inWriteReach h (hv rfl) b
  | mbc1Bank2 u => exact execMbc1Bank2_inWriteReach h (hv rfl) u
  | mbc1Mode m => exact execMbc1Mode_inWriteReach h (hv rfl) m
  | mbc2Romb b => exact execMbc2Romb_inWriteReach h (hv rfl) b
  | mbc3Romb b => exact execMbc3Romb_inWriteReach h (hv rfl) b
  | mbc3Ramb u sel => exact execMbc3Ramb_inWriteReach h (hv rfl) u sel
  | mbc3Latch l => exact ⟨rtcLatch l s, rfl, h⟩
  | mbc5Romlo b | mbc5Romhi b | mbc5Ramb b =>
    refine ⟨_, rfl, (inWriteReach_mbc5 ?_).2 ?_⟩
    · exact hv rfl
    · exact (inWriteReach_mbc5 (hv rfl)).1 h

/-! ### Host operations -/

/-- The reset registers lie within R25 for every variant (R46, R209). -/
theorem resetDecoder_inWriteReach (s : State) : (resetDecoder s).inWriteReach := by
  have hrom : (resetDecoder s).romBankSelect.toNat = 1 := rfl
  have hram : (resetDecoder s).ramBankSelect.toNat = 0 := rfl
  have hmode : (resetDecoder s).bankingMode = false := rfl
  unfold State.inWriteReach
  split <;> simp only [hrom, hram, hmode] <;> decide

theorem loadStep_inWriteReach {s t : State} (h : s.inWriteReach) {r : LoadRequest} (ht : loadStep r s = .next t) :
    t.inWriteReach := by
  obtain ⟨cause, hc⟩ | ⟨v, -, -, hc⟩ | hc := loadStep_cases r s
  · obtain rfl := Host.Outcome.next.inj (hc.symm.trans ht)
    exact h
  · obtain rfl := Host.Outcome.next.inj (hc.symm.trans ht)
    exact resetDecoder_inWriteReach (installCartridge (strapsOf v r) r s)
  · exact nomatch hc.symm.trans ht

theorem ramWindowWrite_inWriteReach {s : State} (h : s.inWriteReach) (o : BitVec 13) (d : Byte) :
    (ramWindowWrite o d s).inWriteReach := by
  obtain heq | ⟨off, -, heq⟩ := ramWindowWrite_eq o d s <;> rw [heq] <;> exact h

/-- Every operation but a RESTORE that answers a next state stays within R25. -/
theorem present_inWriteReach {s t : State} (h : s.inWriteReach) {op : Operation} (hop : op.isRestore = false)
    (ht : present op s = .next t) : t.inWriteReach := by
  obtain ⟨r, -, hload⟩ | ⟨-, ⟨a, d, -, hexec⟩ | ⟨-, rfl⟩ | ⟨saved, rfl, -⟩ | ⟨o, d, -, rfl⟩⟩ := present_cases ht
  · exact loadStep_inWriteReach h hload
  · obtain ⟨u, hu, hreach⟩ := exec_inWriteReach h _ (decode_readUnder s.straps.variant (busWord a d))
    exact Host.Outcome.next.inj (hu.symm.trans hexec) ▸ hreach
  · exact h
  · exact nomatch hop
  · exact ramWindowWrite_inWriteReach h o d

/-- Settles O35: by what the step can do, taking the operation off the list being invisible to R25. -/
theorem stepKeepsWriteReach : Obligations.StepKeepsWriteReach := by
  intro s t h hop hstep
  obtain ⟨-, rfl⟩ | ⟨op, rest, hp, hpresent⟩ := step_cases hstep
  · exact h
  · exact present_inWriteReach (s := s.setPending rest) h (hop op rest hp) hpresent

end Sys2Proof.Machine
end

section
/-! PROOFS. Bus writes of spec/10_state.md: who writes `ramEnabled` (R22, R127), the refresh of a region-1 write (R149), and the latch
command (R191). -/

namespace Sys2Proof.Machine

/-! ### The RAM and RTC enable -/

/-- `ramEnabled` and the RTC's enable are as before, and no command for the latter was issued. -/
def KeepsRtcEnable (s t : State) : Prop :=
  t.ramEnabled = s.ramEnabled ∧ t.rtc.enabled = s.rtc.enabled
    ∧ ∃ l : List RtcCommand, t.rtcIssued = s.rtcIssued ++ l ∧ ∀ b, RtcCommand.setEnabled b ∉ l

theorem KeepsRtcEnable.refl (s : State) : KeepsRtcEnable s s :=
  ⟨rfl, rfl, [], by simp, by simp⟩

/-- One command that is no `setEnabled`. -/
theorem keepsRtcEnable_of_command {s t : State} {c : RtcCommand} (hram : t.ramEnabled = s.ramEnabled)
    (hrtc : t.rtc.enabled = s.rtc.enabled) (hissued : t.rtcIssued = s.rtcIssued ++ [c])
    (hc : ∀ b, RtcCommand.setEnabled b ≠ c) : KeepsRtcEnable s t :=
  ⟨hram, hrtc, [c], hissued, by simpa using hc⟩

theorem keepsRtcEnable_refreshRom {s t : State} (h : KeepsRtcEnable s t) : KeepsRtcEnable s (refreshRom t) := by
  rw [refreshRom_eq]
  exact h

/-- With the chip the one command is `swapActive`, without it there is none (R173). -/
theorem execMbc3Ramb_keepsRtcEnable (u : BitVec 2) (sel : Byte) (s : State) :
    ∃ t, execMbc3Ramb u sel s = .next t ∧ KeepsRtcEnable s t := by
  refine ⟨_, rfl, ?_⟩
  split
  · exact keepsRtcEnable_of_command (c := .swapActive sel) rfl rfl rfl (by simp)
  · exact .refl s

/-- The three sub-cases of R170. -/
theorem execMbc1Bank2_keepsRtcEnable (u : BitVec 2) (s : State) :
    ∃ t, execMbc1Bank2 u s = .next t ∧ KeepsRtcEnable s t := by
  refine ⟨_, rfl, ?_⟩
  split
  · split <;> exact .refl s
  · exact keepsRtcEnable_refreshRom (.refl s)

theorem exec_keepsRtcEnable {i : Instr} (hi : ∀ n, i ∉ ramEnableRows n) (s : State) :
    ∃ t, exec i s = .next t ∧ KeepsRtcEnable s t := by
  cases i with
  | plainRamen n | mbc1Ramen n | mbc2Ramen n | mbc3Ramen n | mbc5Ramen n =>
    exact absurd (by simp [ramEnableRows]) (hi n)
  | plainNop1 | plainNop2 | plainNop3 | mbc2Nop0 | mbc2Nop1 | mbc2Nop2 | mbc2Nop3 | mbc5Nop3 | anyNosel =>
    exact ⟨s, rfl, .refl s⟩
  | mbc1Romlo b => exact ⟨_, rfl, keepsRtcEnable_refreshRom (.refl s)⟩
  | mbc2Romb b | mbc3Romb b | mbc5Romlo b | mbc5Romhi b | mbc5Ramb b => exact ⟨_, rfl, .refl s⟩
  | mbc1Bank2 u => exact execMbc1Bank2_keepsRtcEnable u s
  | mbc1Mode m =>
    refine ⟨_, rfl, ?_⟩
    split
    · exact keepsRtcEnable_refreshRom (.refl s)
    · exact .refl s
  | mbc3Ramb u sel => exact execMbc3Ramb_keepsRtcEnable u sel s
  | mbc3Latch l => exact ⟨rtcLatch l s, rfl, keepsRtcEnable_of_command (c := .latch l) rfl rfl rfl (by simp)⟩

/-- Settles O16: by the operations that are no `*.RAMEN`. -/
theorem onlyRegionZeroWritesRamEnabled : Obligations.OnlyRegionZeroWritesRamEnabled := by
  intro i s t hi ht
  obtain ⟨u, hu, hkeeps⟩ := exec_keepsRtcEnable hi s
  exact Host.Outcome.next.inj (hu.symm.trans ht) ▸ hkeeps

/-! ### The refresh of a region-1 write -/

theorem refreshRom_romBank (s : State) : (refreshRom s).romBank = (refreshRom s).viewRomBank := by
  rw [refreshRom_eq]
  rfl

/-- Without the multicart wiring `RefreshROM` is the standard refresh (R41). -/
theorem refreshRom_of_quirk_false {s : State} (hq : s.straps.multi64Quirk = false) : refreshRom s = refreshRomStd s := by
  simp [refreshRom, multicartPath, hq]

theorem refreshRomStd_romBank {s : State} (hq : s.straps.multi64Quirk = false) :
    (refreshRomStd s).romBank = (refreshRomStd s).viewRomBank := by
  rw [← refreshRom_of_quirk_false hq]
  exact refreshRom_romBank s

/-- Settles O23: each of these writes ends in a refresh, the standard one only where the multicart path cannot be. -/
theorem regionOneRefreshesAtOnce : Obligations.RegionOneRefreshesAtOnce := by
  intro i s t hw hi ht
  have hq {v : Variant} (hv : s.straps.variant = v) (hne : v ≠ .mbc1) : s.straps.multi64Quirk = false :=
    quirk_eq_false hw (hv ▸ hne)
  obtain ⟨-, b, rfl⟩ | ⟨hv, b, rfl⟩ | ⟨hv, b, rfl⟩ | ⟨hv, ⟨b, rfl⟩ | ⟨b, rfl⟩⟩ := hi
  · obtain rfl := Host.Outcome.next.inj ht
    exact refreshRom_romBank _
  all_goals
    obtain rfl := Host.Outcome.next.inj ht
    exact refreshRomStd_romBank (hq hv (by decide))

/-! ### The latch command -/

/-- Settles O28: the command joins the issued ones and nothing else is written. -/
theorem mbc3LatchEffect : Obligations.Mbc3LatchEffect := fun l s =>
  ⟨rtcLatch l s, rfl, rfl, rfl, rfl, rfl, rfl, rfl, rfl, ⟨rfl, rfl, rfl⟩, SameSurroundings.refl s⟩

end Sys2Proof.Machine
end

section
/-! PROOFS. The straps (spec/10_state.md R28, R29): written by a successful LOAD alone, and `hasBattery` read by nothing. -/

namespace Sys2Proof.Machine

/-! ### Who writes them -/

theorem refreshRom_straps (s : State) : (refreshRom s).straps = s.straps := by
  rw [refreshRom_eq]

theorem restoreStep_straps (saved : SavedState) (s : State) : (restoreStep saved s).straps = s.straps :=
  refreshRom_straps _

theorem ramWindowWrite_straps (o : BitVec 13) (d : Byte) (s : State) : (ramWindowWrite o d s).straps = s.straps := by
  obtain heq | ⟨off, -, heq⟩ := ramWindowWrite_eq o d s <;> rw [heq]
  rfl

theorem present_straps {s t : State} {op : Operation} (hop : op.isLoad = false) (ht : present op s = .next t) :
    t.straps = s.straps := by
  obtain ⟨r, rfl, -⟩ | ⟨-, ⟨a, d, -, hexec⟩ | ⟨-, rfl⟩ | ⟨saved, -, rfl⟩ | ⟨o, d, -, rfl⟩⟩ := present_cases ht
  · exact nomatch hop
  · exact exec_straps hexec
  · rfl
  · exact restoreStep_straps saved s
  · exact ramWindowWrite_straps o d s

theorem step_straps {s t : State} {op : Operation} {rest : List Operation} (hp : s.pending = op :: rest)
    (hop : op.isLoad = false) (ht : step s = .next t) : t.straps = s.straps := by
  rw [step_of_pending_cons hp] at ht
  exact present_straps (s := s.setPending rest) hop ht

/-- A LOAD that reports success leaves well-formed straps, computed from the request (R204, R205). -/
theorem straps_of_loaded {s t : State} {r : LoadRequest} (ht : loadStep r s = .next t) (hreply : t.reply = .loaded) :
    ∃ v, r.header.variant = some v ∧ (strapsOf v r).wellFormed = true ∧ t.straps = strapsOf v r := by
  obtain ⟨cause, hc⟩ | ⟨v, hv, hw, hc⟩ | hc := loadStep_cases r s
  · obtain rfl := Host.Outcome.next.inj (hc.symm.trans ht)
    exact nomatch hreply
  · obtain rfl := Host.Outcome.next.inj (hc.symm.trans ht)
    exact ⟨v, hv, hw, rfl⟩
  · exact nomatch hc.symm.trans ht

theorem loadStep_of_step {s t : State} {r : LoadRequest} {rest : List Operation} (hp : s.pending = .load r :: rest)
    (ht : step s = .next t) : loadStep r (s.setPending rest) = .next t := by
  rwa [step_of_pending_cons hp] at ht

/-! ### `hasBattery` is carried along by every operation -/

/-- The state with another `hasBattery`. -/
def State.withBattery (b : Bool) (s : State) : State := s.setStraps { s.straps with hasBattery := b }

theorem setStraps_eq_withBattery {s t : State} (h : t.straps = s.straps) (b : Bool) :
    t.setStraps { s.straps with hasBattery := b } = t.withBattery b := by
  rw [State.withBattery, h]

theorem refreshRom_withBattery (b : Bool) (s : State) :
    refreshRom (s.withBattery b) = (refreshRom s).withBattery b := by
  unfold refreshRom
  rw [apply_ite (State.withBattery b), apply_ite (State.withBattery b)]
  rfl

theorem refreshRam_withBattery (b : Bool) (s : State) :
    refreshRam (s.withBattery b) = (refreshRam s).withBattery b := rfl

theorem ramEnableWrite_withBattery (n : BitVec 4) (b : Bool) (s : State) :
    ramEnableWrite n (s.withBattery b) = (ramEnableWrite n s).withBattery b := by
  rw [ramEnableWrite_eq n s, apply_ite (State.withBattery b)]
  exact ramEnableWrite_eq n (s.withBattery b)

theorem restoreStep_withBattery (saved : SavedState) (b : Bool) (s : State) :
    restoreStep saved (s.withBattery b) = (restoreStep saved s).withBattery b := by
  unfold restoreStep
  rw [← refreshRom_withBattery]
  rfl

theorem ramWindowWrite_withBattery (o : BitVec 13) (d : Byte) (b : Bool) (s : State) :
    ramWindowWrite o d (s.withBattery b) = (ramWindowWrite o d s).withBattery b := by
  have htarget : (s.withBattery b).ramTarget o.toNat = s.ramTarget o.toNat := rfl
  unfold ramWindowWrite
  rw [htarget]
  cases s.ramTarget o.toNat <;> rfl

/-- The three sub-cases of R170. -/
theorem execMbc1Bank2_withBattery (u : BitVec 2) (b : Bool) (s : State) :
    ∃ t, execMbc1Bank2 u s = .next t ∧ execMbc1Bank2 u (s.withBattery b) = .next (t.withBattery b) := by
  refine ⟨_, rfl, ?_⟩
  rw [apply_ite (State.withBattery b), apply_ite (State.withBattery b), ← refreshRom_withBattery]
  rfl

theorem exec_withBattery (i : Instr) (b : Bool) (s : State) :
    ∃ t, exec i s = .next t ∧ exec i (s.withBattery b) = .next (t.withBattery b) := by
  cases i with
  | plainNop1 | plainNop2 | plainNop3 | mbc2Nop0 | mbc2Nop1 | mbc2Nop2 | mbc2Nop3 | mbc5Nop3 | anyNosel =>
    exact ⟨s, rfl, rfl⟩
  | plainRamen n | mbc1Ramen n | mbc2Ramen n | mbc3Ramen n | mbc5Ramen n =>
    exact ⟨_, rfl, congrArg Host.Outcome.next (ramEnableWrite_withBattery n b s)⟩
  | mbc1Romlo x =>
    refine ⟨_, rfl, ?_⟩
    rw [← refreshRom_withBattery]
    rfl
  | mbc2Romb x | mbc3Romb x | mbc5Romlo x | mbc5Romhi x | mbc3Latch x | mbc5Ramb x => exact ⟨_, rfl, rfl⟩
  | mbc1Bank2 u => exact execMbc1Bank2_withBattery u b s
  | mbc1Mode m =>
    refine ⟨_, rfl, ?_⟩
    rw [apply_ite (State.withBattery b), ← refreshRom_withBattery]
    rfl
  | mbc3Ramb u sel =>
    refine ⟨_, rfl, ?_⟩
    rw [← refreshRam_withBattery, apply_ite (State.withBattery b)]
    rfl

theorem exec_withBattery_of_next {i : Instr} {s t : State} (ht : exec i s = .next t) (b : Bool) :
    exec i (s.withBattery b) = .next (t.withBattery b) := by
  obtain ⟨u, hu, hb⟩ := exec_withBattery i b s
  rwa [← Host.Outcome.next.inj (hu.symm.trans ht)]

theorem whenActive_of_active {s : State} (ha : s.cartridgeActive = true) (o : Host.Outcome State Fault Refusal) :
    whenActive s o = o :=
  if_pos ha

theorem present_withBattery {s t : State} {op : Operation} (hop : op.isLoad = false) (ht : present op s = .next t)
    (b : Bool) : present op (s.withBattery b) = .next (t.withBattery b) := by
  obtain ⟨r, rfl, -⟩ | ⟨ha, hcases⟩ := present_cases ht
  · exact nomatch hop
  have hact (o) : whenActive (s.withBattery b) o = o := whenActive_of_active ha o
  obtain ⟨a, d, rfl, hexec⟩ | ⟨rfl, rfl⟩ | ⟨saved, rfl, rfl⟩ | ⟨o, d, rfl, rfl⟩ := hcases
  · exact (hact _).trans (exec_withBattery_of_next hexec b)
  · exact hact _
  · exact (hact _).trans (congrArg _ (restoreStep_withBattery saved b s))
  · exact (hact _).trans (congrArg _ (ramWindowWrite_withBattery o d b s))

/-! ### A LOAD reads no strap -/

theorem loadCartridge_setStraps (r : LoadRequest) (c : Straps) (s : State) :
    loadCartridge r (s.setStraps c) = loadCartridge r s := rfl

/-- A LOAD that reports success met no cause. -/
theorem loadCartridge_of_loaded {s t : State} {r : LoadRequest} (ht : loadStep r s = .next t)
    (hreply : t.reply = .loaded) : loadCartridge r s = .next t := by
  unfold loadStep at ht
  split at ht
  · rename_i u hu
    rwa [hu]
  · obtain rfl := Host.Outcome.next.inj ht
    exact nomatch hreply
  · exact nomatch ht

theorem loadStep_setStraps {s t : State} {r : LoadRequest} (ht : loadStep r s = .next t) (hreply : t.reply = .loaded)
    (c : Straps) : loadStep r (s.setStraps c) = .next t := by
  unfold loadStep
  rw [loadCartridge_setStraps, loadCartridge_of_loaded ht hreply]

/-- Settles O31: LOAD computes the straps, every other operation commutes with a change of `hasBattery`, and no read sees it. -/
theorem onlyLoadWritesTheStraps : Obligations.OnlyLoadWritesTheStraps := by
  refine ⟨?_, ?_, ?_, ?_, ?_, ?_, ?_⟩
  · intro s t r rest hp ht hreply
    obtain ⟨v, hv, -, hstraps⟩ := straps_of_loaded (loadStep_of_step hp ht) hreply
    exact ⟨v, hv, hstraps⟩
  · intro s t op rest hp hop ht
    exact step_straps hp hop ht
  · intro i s t b ht
    rw [setStraps_eq_withBattery (exec_straps ht)]
    exact exec_withBattery_of_next ht b
  · intro saved s b
    rw [setStraps_eq_withBattery (restoreStep_straps saved s)]
    exact restoreStep_withBattery saved b s
  · intro s t op b hop ht
    rw [setStraps_eq_withBattery (present_straps hop ht)]
    exact present_withBattery hop ht b
  · intro s t r b ht hreply
    exact loadStep_setStraps ht hreply _
  · intro s a b
    exact ⟨rfl, rfl⟩

/-! ### The multicart wiring -/

/-- Settles O32: the straps of a successful LOAD are well formed, and R8 (b) is the case of R29. -/
theorem quirkIsSetOnlyByLoad : Obligations.QuirkIsSetOnlyByLoad := by
  refine ⟨?_, ?_, ?_⟩
  · intro s t r rest hp ht hreply
    obtain ⟨v, -, hw, hstraps⟩ := straps_of_loaded (loadStep_of_step hp ht) hreply
    obtain ⟨-, -, hquirk, -⟩ := (straps_wellFormed_iff _).1 hw
    rw [hstraps]
    exact hquirk
  · intro s t op rest hp hop ht
    rw [step_straps hp hop ht]
  · intro s b
    rfl

end Sys2Proof.Machine
end

section
/-! PROOFS. The ROM windows of spec/10_state.md: bank 0 in the high window (R45), the bit a multicart ignores (R280), and the read after
a bus write (spec/20_memory.md R67, R68, R80). -/

namespace Sys2Proof.Machine

/-! ### Bank 0 in the high window -/

theorem viewRomBank_of_multicart {s : State} (hm : s.bankingMode = true ∧ s.straps.multi64Quirk = true) :
    s.viewRomBank = multicartBank s.romBankSelect.toNat :=
  if_pos hm

theorem viewRomBank_of_standard {s : State} (hm : ¬ (s.bankingMode = true ∧ s.straps.multi64Quirk = true)) :
    s.viewRomBank = standardBank s.straps.variant s.romBankSelect.toNat s.straps.romBankCount :=
  if_neg hm

/-- Where index 0 is remapped before the reduction, a nonzero multiple of the bank count alone gives bank 0 (R35, R36). -/
theorem remapped_mod_eq_zero_iff {n : Nat} (hn : 2 ≤ n) (r : Nat) :
    (if r = 0 then 1 else r) % n = 0 ↔ r ≠ 0 ∧ r % n = 0 := by
  by_cases hr : r = 0
  · simp [hr, Nat.mod_eq_of_lt hn]
  · simp [hr]

theorem standardBank_eq_zero_iff {v : Variant} (hv : v = .mbc1 ∨ v = .mbc5) {n : Nat} (hn : 2 ≤ n) (r : Nat) :
    standardBank v r n = 0 ↔ r ≠ 0 ∧ r % n = 0 := by
  obtain rfl | rfl := hv <;> exact remapped_mod_eq_zero_iff hn r

theorem two_le_romBankCount {c : Straps} (h : c.wellFormed = true) : 2 ≤ c.romBankCount :=
  ((straps_wellFormed_iff c).1 h).2.1

/-- Settles O38: by variant, and on MBC1 and MBC5 by whether the multicart path is taken. -/
theorem whenTheHighWindowShowsBankZero : Obligations.WhenTheHighWindowShowsBankZero := by
  rintro s ⟨hw, ⟨hbank, -, -⟩, -, -⟩ hreach
  have hn : 2 ≤ s.straps.romBankCount := two_le_romBankCount hw
  have hstd (hne : s.straps.variant ≠ .mbc1) := viewRomBank_of_standard (s := s) (by simp [quirk_eq_false hw hne])
  refine ⟨fun hv => ?_, fun hv => ?_, fun hv => ?_⟩
  · have hsel : s.romBankSelect.toNat = 1 := by
      simp only [State.inWriteReach, hv] at hreach
      exact hreach.1
    rw [hbank, hstd (by simp [hv]), hv, hsel]
    exact Nat.mod_eq_of_lt hn
  · rw [hbank]
    obtain hv | hv := hv <;> rw [hstd (by simp [hv]), hv] <;> rfl
  · rw [hbank]
    by_cases hm : s.bankingMode = true ∧ s.straps.multi64Quirk = true
    · rw [viewRomBank_of_multicart hm]
      exact iff_of_false (multicartBank_pos _).ne' fun h => h.1 hm
    · rw [viewRomBank_of_standard hm, standardBank_eq_zero_iff hv hn]
      exact (and_iff_right hm).symm

/-! ### Bit 4 of a region-1 write to a multicart -/

/-- On the multicart path the bits are merged and both windows follow (R40, R141). -/
theorem exec_mbc1Romlo_of_multicart {s : State} (hb : s.bankingMode = true) (hq : s.straps.multi64Quirk = true)
    (b : BitVec 5) :
    exec (.mbc1Romlo b) s = .next (refreshRomMulti (s.setRomBankSelect (mergeLowFive s.romBankSelect b))) := by
  rw [← refreshRom_of_multicartPath (by simp [multicartPath, hb, hq])]
  simp [exec, execMbc1Romlo, hb, hq]

theorem flip_bit_four_mod (b : BitVec 5) : (b ^^^ 0x10).toNat % 16 = b.toNat % 16 := by
  revert b; decide

theorem flip_bit_four_ne (b : BitVec 5) : (b ^^^ 0x10).toNat ≠ b.toNat := by
  revert b; decide

/-- Two merged registers whose field differs in bit 4 agree above it and below it (R141). -/
theorem mergeLowFive_flip_bit_four (r : BitVec 9) (b : BitVec 5) :
    (mergeLowFive r b).toNat / 32 = (mergeLowFive r (b ^^^ 0x10)).toNat / 32
    ∧ (mergeLowFive r b).toNat % 16 = (mergeLowFive r (b ^^^ 0x10)).toNat % 16
    ∧ mergeLowFive r b ≠ mergeLowFive r (b ^^^ 0x10) := by
  have hlt := b.isLt
  have hlt' := (b ^^^ 0x10).isLt
  have hmod := flip_bit_four_mod b
  have hne := flip_bit_four_ne b
  rw [ne_eq, ← BitVec.toNat_inj, mergeLowFive_toNat, mergeLowFive_toNat]
  omega

/-- The multicart index drops bit 4 of the register (R37). -/
theorem multicartIndex_congr {r r' : Nat} (hhigh : r / 32 = r' / 32) (hlow : r % 16 = r' % 16) :
    multicartIndex r = multicartIndex r' := by
  rw [multicartIndex, multicartIndex, hhigh, hlow]

/-- Settles O39: the merged registers differ in bit 4 alone, which neither window looks at. -/
theorem multicartIgnoresBitFour : Obligations.MulticartIgnoresBitFour := by
  intro b s t u _ hq hb ht hu
  obtain rfl := Host.Outcome.next.inj ((exec_mbc1Romlo_of_multicart hb hq _).symm.trans ht)
  obtain rfl := Host.Outcome.next.inj ((exec_mbc1Romlo_of_multicart hb hq _).symm.trans hu)
  obtain ⟨hhigh, hlow, hne⟩ := mergeLowFive_flip_bit_four s.romBankSelect b
  simp only [refreshRomMulti_eq, State.setRomBankSelect_romBankSelect]
  refine ⟨?_, by rw [hhigh], hne⟩
  rw [multicartBank, multicartBank, multicartIndex_congr hhigh hlow]

/-! ### The read after a bus write -/

/-- Every offset of the ROM buffer holds a byte (R63). -/
theorem exists_romByte (s : State) (off : Nat) : ∃ v, s.romByte off = some v := by
  unfold State.romByte Memory.read
  cases Memory.lookup s.rom off with
  | none => exact ⟨0xFF, rfl⟩
  | some v => exact ⟨v, rfl⟩

/-- A read at offset `o` of a bank below the bank count, where the buffers are defined. -/
theorem readRom_of_bank {s : State} (hd : s.buffersDefined = true) {bank o : Nat} (hbank : bank < s.straps.romBankCount)
    (ho : o < 0x4000) {v : Byte} (hv : s.romByte (bank * 0x4000 + o) = some v) :
    s.readRom (bank * 0x4000 + o) = .byte v := by
  have hlt : bank * 0x4000 + o < s.straps.romBankCount * Config.romBankSize := by
    show _ < _ * 0x4000
    omega
  rw [State.readRom, if_pos hlt, hv, busByte_of_defined hd]

/-- A read of a ROM window is a read of the bank its latch holds (R67, R68). -/
theorem memRead_of_rom {s : State} {a : Addr} (ha : a.toNat < 0x8000) :
    s.memRead a = s.readRom ((if a.toNat < 0x4000 then s.rom0Window else s.romBank) * 0x4000 + a.toNat % 0x4000) := by
  rw [State.memRead, if_pos ha]
  split <;> rfl

theorem SameSurroundings.romByte {s t : State} (h : SameSurroundings s t) (a : Nat) : t.romByte a = s.romByte a := by
  obtain ⟨-, -, -, -, -, -, -, hrom, -⟩ := h
  exact hrom a

theorem SameSurroundings.buffersDefined {s t : State} (h : SameSurroundings s t) :
    t.buffersDefined = s.buffersDefined := by
  obtain ⟨hactive, -, -, hintact, -⟩ := h
  rw [State.buffersDefined, State.buffersDefined, hactive, hintact]

/-- Settles O42: the latches show the view after the write, the view is below the bank count, and no ROM byte changed. -/
theorem nextReadSeesTheNewBank : Obligations.NextReadSeesTheNewBank := by
  intro i s t a hinv hd hi ht ha
  have hsame := sameSurroundings_of_exec ht
  obtain ⟨u, hu, huinv⟩ := exec_inv hinv i hi
  obtain rfl := Host.Outcome.next.inj (hu.symm.trans ht)
  obtain ⟨hw, ⟨hbank, hlow, -⟩, -, -⟩ := huinv
  have hlt : (if a.toNat < 0x4000 then u.viewRom0Window else u.viewRomBank) < u.straps.romBankCount := by
    split
    · exact viewRom0Window_lt hw
    · exact viewRomBank_lt hw
  obtain ⟨v, hv⟩ := exists_romByte u
    ((if a.toNat < 0x4000 then u.viewRom0Window else u.viewRomBank) * 0x4000 + a.toNat % 0x4000)
  refine ⟨v, (hsame.romByte _).symm.trans hv, ?_⟩
  rw [memRead_of_rom ha, hbank, hlow]
  exact readRom_of_bank (hsame.buffersDefined.trans hd) hlt (Nat.mod_lt _ (by omega)) hv

end Sys2Proof.Machine
end

section
/-! PROOFS. The selectors the RTC contract fixes (spec/10_state.md R34 (b), (c)), and CAPTURE followed by RESTORE
(spec/44_host_operations.md R208). -/

namespace Sys2Proof.Machine

/-! ### Selectors -/

/-- With the chip `MBC3.RAMB` forwards the byte and then reads the status (R173). -/
theorem exec_mbc3Ramb_of_rtc {s : State} (hr : s.straps.hasRtc = true) (u : BitVec 2) (sel : Byte) :
    ∃ t, exec (.mbc3Ramb u sel) s = .next t ∧ t.straps = s.straps ∧ t.ramEnabled = s.ramEnabled
      ∧ t.ramVis = ⟨s.ramEnabled, (s.rtc.swapActive sel).getActive, visibleRamBank u.toNat s.straps.ramBankCount⟩ := by
  refine ⟨_, rfl, ?_⟩
  rw [refreshRam_eq, if_pos (by exact hr), rtcSwapActive_eq]
  simp [State.viewRamVis, hr, zextRamBank_toNat]

/-- With the chip `MBC3.RAMEN` with nibble 0xA leaves RAM and RTC enabled (R125). -/
theorem exec_mbc3Ramen_of_rtc {s : State} (hr : s.straps.hasRtc = true) :
    ∃ t, exec (.mbc3Ramen 0xA) s = .next t ∧ t.straps = s.straps ∧ t.ramEnabled = true ∧ t.rtc.enabled = true :=
  ⟨_, congrArg Host.Outcome.next ((ramEnableWrite_eq 0xA s).trans (if_pos hr)), rfl, rfl, rfl⟩

theorem visibleRamBank_zero (m : Nat) : visibleRamBank 0 m = 0 := by
  simp [visibleRamBank]

/-- Settles O44: the enable, then selector 0x08 with the RTC enabled (R34 (b)), then a RAM-bank selector (R34 (c)). -/
theorem selectorsTheContractFixes : Obligations.SelectorsTheContractFixes := by
  intro s n hr hn
  obtain ⟨t, ht, hstraps, hram, hrtc⟩ := exec_mbc3Ramen_of_rtc hr
  rw [← hstraps] at hr ⊢
  obtain ⟨u, hu, hustraps, huram, huvis⟩ := exec_mbc3Ramb_of_rtc hr 0 0x08
  rw [← hustraps] at hr ⊢
  obtain ⟨w, hw, -, -, hwvis⟩ := exec_mbc3Ramb_of_rtc hr (BitVec.ofNat 2 n.toNat) n
  refine ⟨t, u, w, ht, hu, ?_, hw, ?_⟩
  · rw [huvis, hram, getActive_swapActive_register hrtc]
    exact congrArg (RamVis.mk true true) (visibleRamBank_zero _)
  · have hbank : (BitVec.ofNat 2 n.toNat).toNat = n.toNat := by
      rw [BitVec.toNat_ofNat]
      omega
    rw [hwvis, huram, hram, getActive_swapActive_ramBank hn, hbank]

/-! ### CAPTURE and then RESTORE -/

theorem restoreStep_registers (saved : SavedState) (s : State) :
    (restoreStep saved s).romBankSelect = saved.romBankSelect ∧ (restoreStep saved s).ramBankSelect = saved.ramBankSelect
    ∧ (restoreStep saved s).ramEnabled = saved.ramEnabled ∧ (restoreStep saved s).bankingMode = saved.bankingMode := by
  unfold restoreStep
  rw [refreshRom_eq]
  exact ⟨rfl, rfl, rfl, rfl⟩

/-- The ROM side of the view is a function of the register, the mode and the straps. -/
theorem view_congr {s t : State} (hstraps : t.straps = s.straps) (hsel : t.romBankSelect = s.romBankSelect)
    (hmode : t.bankingMode = s.bankingMode) :
    t.viewRomBank = s.viewRomBank ∧ t.viewRom0Window = s.viewRom0Window := by
  simp only [State.viewRomBank, State.viewRom0Window, hstraps, hsel, hmode, and_self]

/-- The RAM side also reads the RTC's answer, where there is the chip. -/
theorem viewRamVis_congr {s t : State} (hstraps : t.straps = s.straps) (hsel : t.ramBankSelect = s.ramBankSelect)
    (hram : t.ramEnabled = s.ramEnabled) (hrtc : s.straps.hasRtc = true → t.rtc.getActive = s.rtc.getActive) :
    t.viewRamVis = s.viewRamVis := by
  have hflag : (s.straps.hasRtc && t.rtc.getActive) = (s.straps.hasRtc && s.rtc.getActive) := by
    cases h : s.straps.hasRtc with
    | false => rfl
    | true => rw [hrtc h]
  simp only [State.viewRamVis, hstraps, hsel, hram, hflag]

theorem eq_of_present_capture {s t : State} (h : present .capture s = .next t) : t = captureStep s := by
  obtain ⟨r, ⟨⟩, -⟩ | ⟨-, ⟨a, d, ⟨⟩, -⟩ | ⟨-, rfl⟩ | ⟨saved, ⟨⟩, -⟩ | ⟨o, d, ⟨⟩, -⟩⟩ := present_cases h
  rfl

theorem eq_of_present_restore {s t : State} {saved : SavedState} (h : present (.restore saved) s = .next t) :
    t = restoreStep saved s := by
  obtain ⟨r, ⟨⟩, -⟩ | ⟨-, ⟨a, d, ⟨⟩, -⟩ | ⟨⟨⟩, -⟩ | ⟨saved, ⟨⟩, rfl⟩ | ⟨o, d, ⟨⟩, -⟩⟩ := present_cases h
  rfl

/-- Settles O47: RESTORE gives back the raw registers CAPTURE took, and each latch is the view of them before and after. -/
theorem captureThenRestoreRoundTrips : Obligations.CaptureThenRestoreRoundTrips := by
  intro s t u saved hinv _ ht hreply hu hrtc
  obtain rfl := eq_of_present_capture ht
  obtain rfl := eq_of_present_restore hu
  obtain rfl : savedStateOf s = saved := Reply.captured.inj hreply
  obtain ⟨hsel, hrsel, hram, hmode⟩ := restoreStep_registers (savedStateOf s) (captureStep s)
  have hstraps : (restoreStep (savedStateOf s) (captureStep s)).straps = s.straps := restoreStep_straps _ _
  obtain ⟨hvbank, hvlow⟩ := view_congr hstraps hsel hmode
  have hvvis := viewRamVis_congr hstraps hrsel hram hrtc
  have hcapture : (captureStep s).Inv := hinv
  obtain ⟨-, ⟨hbank', hlow', hvis'⟩, -, -⟩ := restoreStep_inv hcapture (savedStateOf s)
  obtain ⟨-, ⟨hbank, hlow, hvis⟩, -, -⟩ := hinv
  exact ⟨hsel, hrsel, hram, hmode, (hbank'.trans hvbank).trans hbank.symm, (hlow'.trans hvlow).trans hlow.symm,
    (hvis'.trans hvvis).trans hvis.symm⟩

end Sys2Proof.Machine
end

section
/-! PROOFS. A LOAD that succeeds (spec/44_host_operations.md R209), the state right after reset (spec/10_state.md R46, R47), and the
machine before the first LOAD (R48). -/

namespace Sys2Proof.Machine

/-! ### The ROM bank count is a power of two (R204) -/

theorem doubleUpTo_eq_mul_two_pow (fuel p n : Nat) : ∃ k, doubleUpTo fuel p n = p * 2 ^ k := by
  induction fuel generalizing p with
  | zero => exact ⟨0, (Nat.mul_one p).symm⟩
  | succ fuel ih =>
    unfold doubleUpTo
    split
    · exact ⟨0, (Nat.mul_one p).symm⟩
    · obtain ⟨k, hk⟩ := ih (2 * p)
      exact ⟨k + 1, by rw [hk, pow_succ']; ring⟩

theorem romBankCountOf_eq_two_pow (size : Nat) : ∃ k, romBankCountOf size = 2 ^ k := by
  obtain ⟨k, hk⟩ := doubleUpTo_eq_mul_two_pow (wholeBanks size) 1 (wholeBanks size)
  rw [one_mul] at hk
  unfold romBankCountOf pow2ceil
  rw [hk]
  obtain h | h := max_choice 2 (2 ^ k)
  · exact ⟨1, h⟩
  · exact ⟨k, h⟩

theorem isPowerOfTwo_two_pow (k : Nat) : isPowerOfTwo (2 ^ k) = true := by
  simp [isPowerOfTwo, Nat.log2_two_pow]

theorem two_le_romBankCountOf (size : Nat) : 2 ≤ romBankCountOf size := le_max_left _ _

/-- The straps of a LOAD are well formed unless the header has an RTC off MBC3 (R8, R204, R205). -/
theorem strapsOf_wellFormed {v : Variant} {r : LoadRequest} (hrtc : r.header.hasRtc = true → v = .mbc3) :
    (strapsOf v r).wellFormed = true := by
  obtain ⟨k, hk⟩ := romBankCountOf_eq_two_pow r.image.size
  refine (straps_wellFormed_iff _).2 ⟨?_, two_le_romBankCountOf _, ?_, hrtc⟩
  · exact (congrArg isPowerOfTwo hk).trans (isPowerOfTwo_two_pow k)
  · simp [strapsOf, quirkValue, and_assoc]

/-! ### What a LOAD leaves -/

/-- The bank number 1 of the reset register is bank 1 for every variant (R47). -/
theorem standardBank_one (v : Variant) {n : Nat} (hn : 2 ≤ n) : standardBank v 1 n = 1 := by
  cases v <;> exact Nat.mod_eq_of_lt hn

theorem resetDecoder_romBank {s : State} (hn : 2 ≤ s.straps.romBankCount) : (resetDecoder s).romBank = 1 := by
  unfold resetDecoder
  rw [refreshRam_eq, refreshRomStd_eq]
  exact standardBank_one _ hn

theorem resetDecoder_ramVis (s : State) :
    (resetDecoder s).ramVis = ⟨false, s.straps.hasRtc && s.rtc.getActive, 0⟩ := by
  unfold resetDecoder
  rw [refreshRam_eq]
  exact congrArg _ (visibleRamBank_zero _)

/-- R200 step 5: the whole banks of the image, 0xFF above them. -/
theorem installCartridge_romByte (c : Straps) (r : LoadRequest) (s : State) (a : Nat) :
    (installCartridge c r s).romByte a =
      some (if a < r.image.size / 0x4000 * 0x4000 then r.image.byteAt a else 0xFF) :=
  Memory.read_fillRom _ _ a

theorem workRamBanksOf_eq (r : LoadRequest) :
    workRamBanksOf r = if r.header.cgb = true ∧ r.forceMonochrome = false then 8 else 2 := by
  simp [workRamBanksOf]

/-- Settles O49: the straps are well formed, so the LOAD installs the cartridge and resets the decoder. -/
theorem loadResetsTheDecoder : Obligations.LoadResetsTheDecoder := by
  intro s r v rest hp hsize hv hread hrtc
  have hw : (strapsOf v r).wellFormed = true := strapsOf_wellFormed hrtc
  have hstep : step s =
      .next ((resetDecoder (installCartridge (strapsOf v r) r (s.setPending rest))).setReply .loaded) := by
    rw [step_of_pending_cons hp]
    exact (loadStep_of_no_cause _ hsize hv hread).trans (if_pos hw)
  have hrom := installCartridge_romByte (strapsOf v r) r (s.setPending rest)
  refine ⟨_, hstep, rfl, rfl, rfl, rfl, rfl, rfl, rfl, hw, rfl, rfl, rfl, rfl, rfl,
    resetDecoder_romBank (two_le_romBankCount hw), resetDecoder_ramVis _, rfl, fun a ha => ?_, fun a ha => ?_,
    fun a => rfl, rfl, workRamBanksOf_eq r⟩
  · exact (hrom a).trans (congrArg some (if_pos ha))
  · exact (hrom a).trans (congrArg some (if_neg (Nat.not_lt.2 ha)))

/-! ### Right after reset -/

/-- Settles O34: both buffers are empty, and the view of bank number 1 on 16 banks is bank 1. -/
theorem resetMeetsTheInvariant : Obligations.ResetMeetsTheInvariant :=
  ⟨by decide, ⟨rfl, rfl, rfl⟩, Memory.wf_nil .rom, Memory.wf_nil .ram⟩

/-- Settles O36: the fields of the reset state, an MBC2 cartridge. -/
theorem resetRegistersAndLatches : Obligations.ResetRegistersAndLatches :=
  ⟨rfl, rfl, rfl, rfl, rfl, rfl, rfl, (inWriteReach_mbc2 rfl).2 ⟨by decide, rfl, rfl⟩⟩

/-! ### Before the first LOAD -/

theorem whenActive_of_inactive {s : State} (ha : s.cartridgeActive = false) (o : Host.Outcome State Fault Refusal) :
    whenActive s o = .refused .noCartridge :=
  if_neg (by simp [ha])

/-- Settles O11: every operation but LOAD asks for an active cartridge first. -/
theorem onlyLoadRunsBeforeALoad : Obligations.OnlyLoadRunsBeforeALoad := by
  intro s op rest hp ha hop
  rw [step_of_pending_cons hp]
  cases op with
  | load r => exact nomatch hop
  | wr a d | capture | restore saved | ramWrite o d => exact whenActive_of_inactive ha _

theorem buffersDefined_of_inactive {s : State} (ha : s.cartridgeActive = false) : s.buffersDefined = false := by
  simp [State.buffersDefined, ha]

theorem readRom_of_undefined {s : State} (hd : s.buffersDefined = false) (off : Nat) : s.readRom off = .unspecified := by
  unfold State.readRom
  split
  · exact busByte_of_undefined hd _
  · rfl

theorem readRamWindow_of_inactive {s : State} (ha : s.cartridgeActive = false) (o : Nat) :
    s.readRamWindow o = .unspecified := by
  unfold State.readRamWindow
  rw [if_neg (by simp [ha])]
  split
  · exact busByte_of_undefined (buffersDefined_of_inactive ha) _
  · rfl

/-- Settles O52: by the window the address lies in. -/
theorem readsBeforeALoadAreUnspecified : Obligations.ReadsBeforeALoadAreUnspecified := by
  intro s a ha hwin
  obtain hrom | hram := hwin
  · rw [memRead_of_rom hrom]
    exact readRom_of_undefined (buffersDefined_of_inactive ha) _
  · unfold State.memRead
    rw [if_neg (by omega), if_neg (by omega), if_pos (by exact hram)]
    exact readRamWindow_of_inactive ha _

end Sys2Proof.Machine
end

section
/-! PROOFS. The addresses a strap ignores (spec/30_encoding.md R99): the decode function by region of the address space, and the
rows that change nothing. -/

namespace Sys2Proof.Machine

/-! ### The decode function by region (R91, R96) -/

/-- A write with `A[15] = 1` is not selected (R62). -/
theorem decode_of_not_selected (v : Variant) {a : Addr} (ha : 0x8000 ≤ a.toNat) (d : Byte) :
    decode v (busWord a d) = .anyNosel := by
  have hsel : notSelected a = true := (notSelected_iff a).trans (decide_eq_true ha)
  rw [decode_busWord, decodeWrite, if_pos hsel]

theorem notSelected_eq_false {a : Addr} (ha : a.toNat < 0x8000) : notSelected a = false :=
  (notSelected_iff a).trans (decide_eq_false (Nat.not_le.2 ha))

/-- Region 0 is buckets 0 and 1. -/
theorem decode_of_region0 (v : Variant) {a : Addr} (ha : a.toNat < 0x2000) (d : Byte) :
    decode v (busWord a d) = decodeRegion0 v a d := by
  have hb : bucketOf a = 0 ∨ bucketOf a = 1 := by
    rw [bucketOf_eq]
    omega
  rw [decode_busWord, decodeWrite, notSelected_eq_false (by omega)]
  obtain hb | hb := hb <;> rw [hb] <;> rfl

/-- The lower half of region 1 is bucket 2. -/
theorem decode_of_bucket2 (v : Variant) {a : Addr} (hlo : 0x2000 ≤ a.toNat) (hhi : a.toNat < 0x3000) (d : Byte) :
    decode v (busWord a d) = decodeBucket2 v a d := by
  have hb : bucketOf a = 2 := by
    rw [bucketOf_eq]
    omega
  rw [decode_busWord, decodeWrite, notSelected_eq_false (by omega), hb]
  rfl

/-- The upper half of region 1 is bucket 3. -/
theorem decode_of_bucket3 (v : Variant) {a : Addr} (hlo : 0x3000 ≤ a.toNat) (hhi : a.toNat < 0x4000) (d : Byte) :
    decode v (busWord a d) = decodeBucket3 v a d := by
  have hb : bucketOf a = 3 := by
    rw [bucketOf_eq]
    omega
  rw [decode_busWord, decodeWrite, notSelected_eq_false (by omega), hb]
  rfl

/-- Region 2 is buckets 4 and 5. -/
theorem decode_of_region2 (v : Variant) {a : Addr} (hlo : 0x4000 ≤ a.toNat) (hhi : a.toNat < 0x6000) (d : Byte) :
    decode v (busWord a d) = decodeRegion2 v d := by
  have hb : bucketOf a = 4 ∨ bucketOf a = 5 := by
    rw [bucketOf_eq]
    omega
  rw [decode_busWord, decodeWrite, notSelected_eq_false (by omega)]
  obtain hb | hb := hb <;> rw [hb] <;> rfl

/-- Region 3 is buckets 6 and 7. -/
theorem decode_of_region3 (v : Variant) {a : Addr} (hlo : 0x6000 ≤ a.toNat) (hhi : a.toNat < 0x8000) (d : Byte) :
    decode v (busWord a d) = decodeRegion3 v d := by
  have hb : bucketOf a = 6 ∨ bucketOf a = 7 := by
    rw [bucketOf_eq]
    omega
  rw [decode_busWord, decodeWrite, notSelected_eq_false (by omega)]
  obtain hb | hb := hb <;> rw [hb] <;> rfl

/-- R97: but for MBC5 the two halves of region 1 are one handler. -/
theorem decode_of_region1 {v : Variant} (hv : v ≠ .mbc5) {a : Addr} (hlo : 0x2000 ≤ a.toNat) (hhi : a.toNat < 0x4000)
    (d : Byte) : decode v (busWord a d) = decodeBucket3 v a d := by
  obtain ha | ha := Nat.lt_or_ge a.toNat 0x3000
  · rw [decode_of_bucket2 v hlo ha]
    cases v with
    | plain | mbc1 | mbc2 | mbc3 => rfl
    | mbc5 => exact absurd rfl hv
  · exact decode_of_bucket3 v ha hhi d

/-! ### The ignored rows -/

/-- `*.NOP*` and `ANY.NOSEL` are the identity (R232). -/
theorem exec_of_mem_ignoredRows {i : Instr} (hi : i ∈ ignoredRows) (s : State) : exec i s = .next s := by
  simp only [ignoredRows, List.mem_cons, List.not_mem_nil, or_false] at hi
  obtain rfl | rfl | rfl | rfl | rfl | rfl | rfl | rfl | rfl := hi <;> rfl

/-- Plain, MBC2 and MBC5 have no operation in region 3 (R192, R193, R194). -/
theorem decode_region3_ignored {v : Variant} (hv : v = .plain ∨ v = .mbc2 ∨ v = .mbc5) {a : Addr}
    (hlo : 0x6000 ≤ a.toNat) (hhi : a.toNat < 0x8000) (d : Byte) : decode v (busWord a d) ∈ ignoredRows := by
  rw [decode_of_region3 v hlo hhi]
  obtain rfl | rfl | rfl := hv <;> simp [decodeRegion3, ignoredRows]

/-- Plain and MBC2 have no operation in region 2 (R172, R175; the spec's D14). -/
theorem decode_region2_ignored {v : Variant} (hv : v = .plain ∨ v = .mbc2) {a : Addr}
    (hlo : 0x4000 ≤ a.toNat) (hhi : a.toNat < 0x6000) (d : Byte) : decode v (busWord a d) ∈ ignoredRows := by
  rw [decode_of_region2 v hlo hhi]
  obtain rfl | rfl := hv <;> simp [decodeRegion2, ignoredRows]

/-- Plain has no operation in region 1 (R140). -/
theorem decode_plain_region1_ignored {a : Addr} (hlo : 0x2000 ≤ a.toNat) (hhi : a.toNat < 0x4000) (d : Byte) :
    decode .plain (busWord a d) ∈ ignoredRows := by
  rw [decode_of_region1 (by decide) hlo hhi]
  simp [decodeBucket3, ignoredRows]

theorem bitEight_eq_false {a : Addr} (hgate : ¬ gateOpen a) : bitEight a = false :=
  (bitEight_iff a).trans (decide_eq_false hgate)

/-- MBC2 with `A[8] = 0` ignores regions 0 and 1 (R124, R144). -/
theorem decode_mbc2_gate_closed {a : Addr} (ha : a.toNat < 0x4000) (hgate : ¬ gateOpen a) (d : Byte) :
    decode .mbc2 (busWord a d) = if a.toNat < 0x2000 then .mbc2Nop0 else .mbc2Nop1 := by
  have h8 := bitEight_eq_false hgate
  split
  · rename_i hlo
    rw [decode_of_region0 .mbc2 hlo]
    simp [decodeRegion0, h8]
  · rename_i hlo
    rw [decode_of_region1 (by decide) (Nat.not_lt.1 hlo) ha]
    simp [decodeBucket3, h8]

theorem decode_mbc2_gate_closed_ignored {a : Addr} (ha : a.toNat < 0x4000) (hgate : ¬ gateOpen a) (d : Byte) :
    decode .mbc2 (busWord a d) ∈ ignoredRows := by
  rw [decode_mbc2_gate_closed ha hgate]
  split <;> simp [ignoredRows]

/-- Every address a strap ignores decodes to an ignored row: by variant, and there by region (R94, R96, R99). -/
theorem decode_mem_ignoredRows {v : Variant} {a : Addr} (h : ignoredAt v a) (d : Byte) :
    decode v (busWord a d) ∈ ignoredRows := by
  obtain ha | ha := Nat.lt_or_ge a.toNat 0x8000
  swap
  · rw [decode_of_not_selected v ha]
    simp [ignoredRows]
  replace h := h.resolve_left (Nat.not_le.2 ha)
  cases v with
  | plain =>
    have h1 : 0x2000 ≤ a.toNat := h
    obtain h2 | h2 := Nat.lt_or_ge a.toNat 0x4000
    · exact decode_plain_region1_ignored h1 h2 d
    obtain h3 | h3 := Nat.lt_or_ge a.toNat 0x6000
    · exact decode_region2_ignored (.inl rfl) h2 h3 d
    · exact decode_region3_ignored (.inl rfl) h3 ha d
  | mbc1 | mbc3 => exact h.elim
  | mbc2 =>
    obtain h2 | h2 := Nat.lt_or_ge a.toNat 0x4000
    · exact decode_mbc2_gate_closed_ignored h2 (h.resolve_left (Nat.not_le.2 h2)) d
    obtain h3 | h3 := Nat.lt_or_ge a.toNat 0x6000
    · exact decode_region2_ignored (.inr rfl) h2 h3 d
    · exact decode_region3_ignored (.inr (.inl rfl)) h3 ha d
  | mbc5 =>
    have h3 : 0x6000 ≤ a.toNat := h
    exact decode_region3_ignored (.inr (.inr rfl)) h3 ha d

/-- Settles O12: the write decodes to an ignored row, and those are the identity. -/
theorem ignoredAddressesChangeNothing : Obligations.IgnoredAddressesChangeNothing := by
  intro s a d rest hp ha hign
  rw [step_of_pending_cons hp, present_wr_of_active (by exact ha)]
  exact exec_of_mem_ignoredRows (decode_mem_ignoredRows hign d) _

end Sys2Proof.Machine
end

section
/-! PROOFS. Repeated and reordered writes (spec/20_memory.md R77, R73): an MBC5 bank number in either order, and the same write
twice. -/

namespace Sys2Proof.Machine

/-! ### The two halves of an MBC5 bank number (R104, R147, R148) -/

theorem mergeBitEight_mergeLowEight (r n : BitVec 9) :
    mergeBitEight (mergeLowEight r (n.extractLsb' 0 8)) (n.extractLsb' 8 1) = n := by
  have hn := n.isLt
  apply BitVec.eq_of_toNat_eq
  rw [mergeBitEight_toNat, mergeLowEight_toNat, BitVec.extractLsb'_toNat, BitVec.extractLsb'_toNat,
    Nat.shiftRight_eq_div_pow, Nat.shiftRight_eq_div_pow]
  omega

theorem mergeLowEight_mergeBitEight (r n : BitVec 9) :
    mergeLowEight (mergeBitEight r (n.extractLsb' 8 1)) (n.extractLsb' 0 8) = n := by
  have hn := n.isLt
  apply BitVec.eq_of_toNat_eq
  rw [mergeLowEight_toNat, mergeBitEight_toNat, BitVec.extractLsb'_toNat, BitVec.extractLsb'_toNat,
    Nat.shiftRight_eq_div_pow, Nat.shiftRight_eq_div_pow]
  omega

/-- `MBC5.ROMHI` right after a bank number was written. -/
theorem exec_mbc5Romhi_after (r : BitVec 9) (h : BitVec 1) (s : State) :
    exec (.mbc5Romhi h) (refreshRomStd (s.setRomBankSelect r))
      = .next (refreshRomStd (s.setRomBankSelect (mergeBitEight r h))) := rfl

/-- `MBC5.ROMLO` right after a bank number was written. -/
theorem exec_mbc5Romlo_after (r : BitVec 9) (b : BitVec 8) (s : State) :
    exec (.mbc5Romlo b) (refreshRomStd (s.setRomBankSelect r))
      = .next (refreshRomStd (s.setRomBankSelect (mergeLowEight r b))) := rfl

/-- Settles O22: in either order the second write leaves the whole number in the register and the standard refresh of it. -/
theorem mbc5BankNumberInEitherOrder : Obligations.Mbc5BankNumberInEitherOrder := by
  intro n s _
  refine ⟨_, _, _, _, rfl, exec_mbc5Romhi_after _ _ s, rfl, exec_mbc5Romlo_after _ _ s, ?_, ?_⟩
  · rw [mergeBitEight_mergeLowEight, mergeLowEight_mergeBitEight]
  · exact mergeBitEight_mergeLowEight s.romBankSelect n

/-! ### The assemblies keep what they wrote (R93) -/

theorem mergeLowFive_again (r : BitVec 9) (b : BitVec 5) : mergeLowFive (mergeLowFive r b) b = mergeLowFive r b := by
  have hb := b.isLt
  apply BitVec.eq_of_toNat_eq
  simp only [mergeLowFive_toNat]
  omega

theorem mergeUpperTwo_again (r : BitVec 9) (u : BitVec 2) :
    mergeUpperTwo (mergeUpperTwo r u) u = mergeUpperTwo r u := by
  have hu := u.isLt
  apply BitVec.eq_of_toNat_eq
  simp only [mergeUpperTwo_toNat]
  omega

theorem mergeLowEight_again (r : BitVec 9) (b : BitVec 8) :
    mergeLowEight (mergeLowEight r b) b = mergeLowEight r b := by
  have hb := b.isLt
  apply BitVec.eq_of_toNat_eq
  simp only [mergeLowEight_toNat]
  omega

theorem mergeBitEight_again (r : BitVec 9) (h : BitVec 1) :
    mergeBitEight (mergeBitEight r h) h = mergeBitEight r h := by
  have hh := h.isLt
  apply BitVec.eq_of_toNat_eq
  simp only [mergeBitEight_toNat]
  omega

/-! ### The same write twice -/

/-- A second bank number overwrites what the refresh of the first one wrote (R41). -/
theorem refreshRom_setRomBankSelect_overwrites (r r' : BitVec 9) (s : State) :
    refreshRom ((refreshRom (s.setRomBankSelect r)).setRomBankSelect r') = refreshRom (s.setRomBankSelect r') := by
  simp only [refreshRom_eq]
  cases hq : s.straps.multi64Quirk <;> simp [State.setRomBankSelect, hq, State.viewRomBank, State.viewRom0Window]

/-- Executing the operation twice gives the state that executing it once gives, but for the commands issued on the RTC port. -/
def RepeatAddsOnlyCommands (i : Instr) (s : State) : Prop :=
  ∃ t l, exec i s = .next t ∧ exec i t = .next (t.setRtcIssued l)

/-- An operation that, executed twice, gives exactly the state it gives once. -/
theorem repeatAddsOnlyCommands_of_eq {i : Instr} {s t : State} (ht : exec i s = .next t) (hu : exec i t = .next t) :
    RepeatAddsOnlyCommands i s :=
  ⟨t, t.rtcIssued, ht, hu⟩

/-- With the chip the second enable issues its command again and changes no answer (R34, log entry 6). -/
theorem ramEnableWrite_again (n : BitVec 4) (s : State) :
    ∃ l, ramEnableWrite n (ramEnableWrite n s) = (ramEnableWrite n s).setRtcIssued l := by
  cases hr : s.straps.hasRtc with
  | false => exact ⟨s.rtcIssued, by simp [ramEnableWrite_eq, hr, State.setRtcIssued]⟩
  | true =>
    exact ⟨s.rtcIssued ++ [.setEnabled (enableValue n)] ++ [.setEnabled (enableValue n)],
      by simp [ramEnableWrite_eq, hr, State.setRtcIssued, setEnabled_again]⟩

/-- R173 without the chip. -/
theorem exec_mbc3Ramb_of_no_rtc {s : State} (hr : s.straps.hasRtc = false) (u : BitVec 2) (sel : Byte) :
    exec (.mbc3Ramb u sel) s = .next (refreshRam (s.setRamBankSelect (zextRamBank u))) := by
  simp [exec, execMbc3Ramb, hr]

/-- R173 with the chip. -/
theorem exec_mbc3Ramb_swapActive {s : State} (hr : s.straps.hasRtc = true) (u : BitVec 2) (sel : Byte) :
    exec (.mbc3Ramb u sel) s = .next (refreshRam (rtcSwapActive sel (s.setRamBankSelect (zextRamBank u)))) := by
  simp [exec, execMbc3Ramb, hr]

/-- With the chip the second selector is issued again and changes no answer (R34, log entry 6). -/
theorem mbc3Ramb_repeat (u : BitVec 2) (sel : Byte) (s : State) : RepeatAddsOnlyCommands (.mbc3Ramb u sel) s := by
  cases hr : s.straps.hasRtc with
  | false =>
    exact repeatAddsOnlyCommands_of_eq (exec_mbc3Ramb_of_no_rtc hr u sel) (exec_mbc3Ramb_of_no_rtc (by exact hr) u sel)
  | true =>
    refine ⟨_, s.rtcIssued ++ [.swapActive sel] ++ [.swapActive sel], exec_mbc3Ramb_swapActive hr u sel,
      (exec_mbc3Ramb_swapActive (by exact hr) u sel).trans ?_⟩
    simp [refreshRam_eq, rtcSwapActive_eq, State.setRamBankSelect, State.setRtcIssued, State.viewRamVis, swapActive_again]

theorem refreshRom_bankingMode (s : State) : (refreshRom s).bankingMode = s.bankingMode := by
  rw [refreshRom_eq]

theorem refreshRom_romBankSelect (s : State) : (refreshRom s).romBankSelect = s.romBankSelect := by
  rw [refreshRom_eq]

/-- `MBC1.ROMLO` right after a bank number was written. -/
theorem exec_mbc1Romlo_after (b : BitVec 5) (r : BitVec 9) (s : State) :
    exec (.mbc1Romlo b) (refreshRom (s.setRomBankSelect r)) =
      .next (refreshRom (s.setRomBankSelect
        (if s.bankingMode && !s.straps.multi64Quirk then replaceSelect b else mergeLowFive r b))) := by
  simp only [exec, execMbc1Romlo, refreshRom_setRomBankSelect_overwrites, refreshRom_bankingMode, refreshRom_straps,
    refreshRom_romBankSelect, State.setRomBankSelect_bankingMode, State.setRomBankSelect_straps,
    State.setRomBankSelect_romBankSelect]

/-- Replace or merge (R141): the second write makes the first one's choice, since neither the mode nor a strap changed. -/
theorem mbc1Romlo_repeat (b : BitVec 5) (s : State) : RepeatAddsOnlyCommands (.mbc1Romlo b) s := by
  refine repeatAddsOnlyCommands_of_eq rfl ((exec_mbc1Romlo_after b _ s).trans ?_)
  split
  · rfl
  · rw [mergeLowFive_again]

/-- R170 in RAM-banking mode without the multicart wiring. -/
theorem exec_mbc1Bank2_of_ram {s : State} (h : s.bankingMode = true ∧ s.straps.multi64Quirk = false) (u : BitVec 2) :
    exec (.mbc1Bank2 u) s = .next (refreshRam (s.setRamBankSelect (zextRamBank u))) := by
  obtain ⟨hb, hq⟩ := h
  simp [exec, execMbc1Bank2, hb, hq]

/-- R170 in the two other sub-cases. -/
theorem exec_mbc1Bank2_of_rom {s : State} (h : ¬ (s.bankingMode = true ∧ s.straps.multi64Quirk = false)) (u : BitVec 2) :
    exec (.mbc1Bank2 u) s = .next (refreshRom (s.setRomBankSelect (mergeUpperTwo s.romBankSelect u))) := by
  cases hb : s.bankingMode with
  | false => simp [exec, execMbc1Bank2, hb]
  | true =>
    have hq : s.straps.multi64Quirk = true := by simpa [hb] using h
    simp [exec, execMbc1Bank2, refreshRom, multicartPath, hb, hq]

theorem mbc1Bank2_repeat (u : BitVec 2) (s : State) : RepeatAddsOnlyCommands (.mbc1Bank2 u) s := by
  by_cases h : s.bankingMode = true ∧ s.straps.multi64Quirk = false
  · exact repeatAddsOnlyCommands_of_eq (exec_mbc1Bank2_of_ram h u) (exec_mbc1Bank2_of_ram (by exact h) u)
  · refine repeatAddsOnlyCommands_of_eq (exec_mbc1Bank2_of_rom h u) ?_
    rw [exec_mbc1Bank2_of_rom, refreshRom_setRomBankSelect_overwrites, refreshRom_romBankSelect,
      State.setRomBankSelect_romBankSelect, mergeUpperTwo_again]
    rwa [refreshRom_bankingMode, refreshRom_straps]

/-- R190 without the multicart wiring: no refresh. -/
theorem exec_mbc1Mode_of_standard {s : State} (hq : s.straps.multi64Quirk = false) (m : BitVec 1) :
    exec (.mbc1Mode m) s = .next (s.setBankingMode (modeValue m)) := by
  simp [exec, execMbc1Mode, hq]

/-- R190 on a multicart cartridge. -/
theorem exec_mbc1Mode_of_multicart {s : State} (hq : s.straps.multi64Quirk = true) (m : BitVec 1) :
    exec (.mbc1Mode m) s = .next (refreshRom (s.setBankingMode (modeValue m))) := by
  simp [exec, execMbc1Mode, hq]

/-- A second mode overwrites what the refresh under the same mode wrote. -/
theorem refreshRom_setBankingMode_again (b : Bool) (s : State) :
    refreshRom ((refreshRom (s.setBankingMode b)).setBankingMode b) = refreshRom (s.setBankingMode b) := by
  simp only [refreshRom_eq]
  cases hq : s.straps.multi64Quirk <;> simp [State.setBankingMode, hq, State.viewRomBank, State.viewRom0Window]

theorem mbc1Mode_repeat (m : BitVec 1) (s : State) : RepeatAddsOnlyCommands (.mbc1Mode m) s := by
  cases hq : s.straps.multi64Quirk with
  | false =>
    exact repeatAddsOnlyCommands_of_eq (exec_mbc1Mode_of_standard hq m) (exec_mbc1Mode_of_standard (by exact hq) m)
  | true =>
    refine repeatAddsOnlyCommands_of_eq (exec_mbc1Mode_of_multicart hq m) ?_
    rw [exec_mbc1Mode_of_multicart, refreshRom_setBankingMode_again]
    rwa [refreshRom_straps]

/-- The same write twice adds nothing but the repeated command on the RTC port. -/
theorem exec_repeat (i : Instr) (s : State) : RepeatAddsOnlyCommands i s := by
  cases i with
  | plainNop1 | plainNop2 | plainNop3 | mbc2Nop0 | mbc2Nop1 | mbc2Nop2 | mbc2Nop3 | mbc5Nop3 | anyNosel =>
    exact repeatAddsOnlyCommands_of_eq (t := s) rfl rfl
  | plainRamen n | mbc1Ramen n | mbc2Ramen n | mbc3Ramen n | mbc5Ramen n =>
    obtain ⟨l, hl⟩ := ramEnableWrite_again n s
    exact ⟨ramEnableWrite n s, l, rfl, congrArg Host.Outcome.next hl⟩
  | mbc1Romlo b => exact mbc1Romlo_repeat b s
  | mbc1Bank2 u => exact mbc1Bank2_repeat u s
  | mbc1Mode m => exact mbc1Mode_repeat m s
  | mbc2Romb b | mbc3Romb b | mbc5Ramb b => exact repeatAddsOnlyCommands_of_eq rfl rfl
  | mbc3Ramb u sel => exact mbc3Ramb_repeat u sel s
  | mbc3Latch l => exact ⟨_, _, rfl, rfl⟩
  | mbc5Romlo b =>
    refine repeatAddsOnlyCommands_of_eq rfl ((exec_mbc5Romlo_after _ b s).trans ?_)
    rw [mergeLowEight_again]
  | mbc5Romhi h =>
    refine repeatAddsOnlyCommands_of_eq rfl ((exec_mbc5Romhi_after _ h s).trans ?_)
    rw [mergeBitEight_again]

/-- Settles O30: a repeated write adds only commands to the RTC port's sequence, which is neither a register nor a latch. -/
theorem theSameWriteTwiceIsOneWrite : Obligations.TheSameWriteTwiceIsOneWrite := by
  intro i s t u ht hu
  obtain ⟨t', l, ht', hu'⟩ := exec_repeat i s
  obtain rfl := Host.Outcome.next.inj (ht'.symm.trans ht)
  obtain rfl := Host.Outcome.next.inj (hu'.symm.trans hu)
  exact ⟨rfl, rfl, rfl, rfl, rfl, rfl, rfl⟩

end Sys2Proof.Machine
end

section
/-! PROOFS. The RAM window and the two buffers (spec/20_memory.md R69, R71): where a write lands, what a read answers, what no
operation changes, and the save-data blob (R64, R212). -/

namespace Sys2Proof.Machine

/-! ### Where an access to the RAM window lands (R69) -/

/-- While the RTC is active, RAM is disabled or there is no RAM, no access reaches RAM. -/
theorem ramTarget_eq_none {s : State}
    (h : s.ramVis.rtcActive = true ∨ s.ramVis.enabled = false ∨ s.straps.ramBankCount = 0) (o : Nat) :
    s.ramTarget o = none := by
  unfold State.ramTarget
  obtain h | h | h := h <;> simp [h]

/-- Otherwise it reaches the visible bank. -/
theorem ramTarget_eq_some {s : State} (hrtc : s.ramVis.rtcActive = false) (hen : s.ramVis.enabled = true)
    (hcount : s.straps.ramBankCount ≠ 0) (o : Nat) : s.ramTarget o = some (s.ramVis.bank * 0x2000 + o) := by
  simp [State.ramTarget, hrtc, hen, hcount, Config.ramBankSize]

theorem ramWindowWrite_of_none {s : State} {o : BitVec 13} (h : s.ramTarget o.toNat = none) (d : Byte) :
    ramWindowWrite o d s = s := by
  simp only [ramWindowWrite, h]

theorem ramWindowWrite_of_some {s : State} {o : BitVec 13} {off : Nat} (h : s.ramTarget o.toNat = some off) (d : Byte) :
    ramWindowWrite o d s = s.setRam (Memory.write .ram s.ram off d) := by
  simp only [ramWindowWrite, h]

/-- A RAM byte written. -/
theorem ramByte_write_same {s : State} (hm : Memory.wf .ram s.ram) (off : Nat) (d : Byte) :
    (s.setRam (Memory.write .ram s.ram off d)).ramByte off = some d :=
  Memory.read_write_same hm off d

/-- Every other RAM byte is as before. -/
theorem ramByte_write_other {s : State} (hm : Memory.wf .ram s.ram) {off a : Nat} (h : off ≠ a) (d : Byte) :
    (s.setRam (Memory.write .ram s.ram off d)).ramByte a = s.ramByte a :=
  Memory.read_write_other hm h d

/-- Settles O41: by where the access lands. -/
theorem ramWindowWriteEffect : Obligations.RamWindowWriteEffect := by
  intro o d s rest hp ha hm
  have hstep : step s = .next (ramWindowWrite o d (s.setPending rest)) := by
    rw [step_of_pending_cons hp]
    exact whenActive_of_active ha _
  refine ⟨_, hstep, fun h => ?_, fun hrtc hen hcount => ?_⟩
  · exact ramWindowWrite_of_none (s := s.setPending rest) (ramTarget_eq_none h o.toNat) d
  · rw [ramWindowWrite_of_some (s := s.setPending rest) (ramTarget_eq_some hrtc hen hcount o.toNat) d]
    refine ⟨ramByte_write_same (s := s.setPending rest) hm _ d, fun a hne => ?_, rfl⟩
    exact ramByte_write_other (s := s.setPending rest) hm hne.symm d

/-! ### What an operation leaves in the buffers (R71) -/

/-- RESTORE touches neither buffer (R207). -/
theorem restoreStep_buffers (saved : SavedState) (s : State) :
    (restoreStep saved s).rom = s.rom ∧ (restoreStep saved s).ram = s.ram := by
  unfold restoreStep
  rw [refreshRom_eq]
  exact ⟨rfl, rfl⟩

theorem ramWindowWrite_rom (o : BitVec 13) (d : Byte) (s : State) : (ramWindowWrite o d s).rom = s.rom := by
  obtain heq | ⟨off, -, heq⟩ := ramWindowWrite_eq o d s <;> rw [heq]
  rfl

/-- A write into the RAM window changes no byte but the one it lands on. -/
theorem ramWindowWrite_ramByte {s : State} (hm : Memory.wf .ram s.ram) {o : BitVec 13} {a : Nat}
    (ha : s.ramTarget o.toNat ≠ some a) (d : Byte) : (ramWindowWrite o d s).ramByte a = s.ramByte a := by
  obtain heq | ⟨off, hoff, heq⟩ := ramWindowWrite_eq o d s
  · rw [heq]
  · rw [heq]
    have hne : off ≠ a := fun h => ha (hoff.trans (congrArg some h))
    exact ramByte_write_other hm hne d

theorem romByte_congr {s t : State} (h : t.rom = s.rom) (a : Nat) : t.romByte a = s.romByte a :=
  congrArg (Memory.read .rom · a) h

theorem ramByte_congr {s t : State} (h : t.ram = s.ram) (a : Nat) : t.ramByte a = s.ramByte a :=
  congrArg (Memory.read .ram · a) h

/-- Settles O40: by what an operation other than LOAD can do. -/
theorem bytesChangeOnlyWhereWritten : Obligations.BytesChangeOnlyWhereWritten := by
  intro s t op rest hp hop hm ht
  rw [step_of_pending_cons hp] at ht
  obtain ⟨r, rfl, -⟩ | ⟨-, ⟨a, d, -, hexec⟩ | ⟨-, rfl⟩ | ⟨saved, -, rfl⟩ | ⟨o, d, rfl, rfl⟩⟩ := present_cases ht
  · exact nomatch hop
  · obtain ⟨-, -, -, -, -, -, -, hrom, hram⟩ := sameSurroundings_of_exec hexec
    exact ⟨hrom, fun a _ => hram a⟩
  · exact ⟨fun _ => rfl, fun _ _ => rfl⟩
  · obtain ⟨hrom, hram⟩ := restoreStep_buffers saved (s.setPending rest)
    exact ⟨romByte_congr hrom, fun a _ => ramByte_congr hram a⟩
  · refine ⟨romByte_congr (ramWindowWrite_rom o d (s.setPending rest)), fun a ha => ?_⟩
    exact ramWindowWrite_ramByte (s := s.setPending rest) hm (ha o d rfl) d

/-! ### What a read of the RAM window answers (R69, R70) -/

/-- The addresses 0xA000 to 0xBFFF are the RAM window (the spec's D21). -/
theorem memRead_of_ram {s : State} {a : Addr} (hlo : 0xA000 ≤ a.toNat) (hhi : a.toNat < 0xC000) :
    s.memRead a = s.readRamWindow (a.toNat - 0xA000) := by
  rw [State.memRead, if_neg (by omega), if_neg (by omega)]
  exact if_pos ⟨hlo, hhi⟩

theorem readRamWindow_of_rtcActive {s : State} (ha : s.cartridgeActive = true) (hrtc : s.ramVis.rtcActive = true)
    (o : Nat) : s.readRamWindow o = .rtcRegister := by
  simp [State.readRamWindow, ha, hrtc]

/-- With the RTC not active the answer is the target's. -/
theorem readRamWindow_of_none {s : State} {o : Nat} (hrtc : s.ramVis.rtcActive = false) (ht : s.ramTarget o = none) :
    s.readRamWindow o = .unspecified := by
  simp [State.readRamWindow, hrtc, ht]

theorem readRamWindow_of_some {s : State} {o off : Nat} (hrtc : s.ramVis.rtcActive = false)
    (ht : s.ramTarget o = some off) : s.readRamWindow o = s.busByte (s.ramByte off) := by
  simp [State.readRamWindow, hrtc, ht]

/-- Settles O43: by where the access lands. -/
theorem ramWindowReads : Obligations.RamWindowReads := by
  intro s a hlo hhi
  rw [memRead_of_ram hlo hhi]
  refine ⟨fun ha hrtc => ?_, fun hrtc h => ?_, fun v hrtc hen hcount hd hv => ?_⟩
  · exact readRamWindow_of_rtcActive ha hrtc _
  · exact readRamWindow_of_none hrtc (ramTarget_eq_none (.inr h) _)
  · rw [readRamWindow_of_some hrtc (ramTarget_eq_some hrtc hen hcount _), hv, busByte_of_defined hd]

/-! ### The save-data blob (R64, R212) -/

theorem buffersDefined_iff (s : State) :
    s.buffersDefined = true ↔ s.cartridgeActive = true ∧ s.buffersIntact = true := by
  simp [State.buffersDefined]

theorem savedataSize_of_defined {s : State} (h : s.buffersDefined = true) :
    savedataSize s = some (s.straps.ramBankCount * 0x2000) :=
  if_pos h

theorem savedataSize_of_undefined {s : State} (h : ¬ s.buffersDefined = true) : savedataSize s = none :=
  if_neg h

/-- The blob lists the RAM buffer's bytes, as many as its size says. -/
theorem savedata_of_size {s : State} {n : Nat} (h : savedataSize s = some n) :
    savedata s = some ((List.range n).map s.ramByte) := by
  rw [savedata, h, Option.map_some]

theorem savedata_of_size_none {s : State} (h : savedataSize s = none) : savedata s = none := by
  rw [savedata, h, Option.map_none]

/-- Settles O53: by whether the spec says what the buffers hold. -/
theorem savedataIsTheRamBuffer : Obligations.SavedataIsTheRamBuffer := by
  intro s
  refine ⟨fun ha hi => ?_, fun h => ?_⟩
  · have hsize := savedataSize_of_defined ((buffersDefined_iff s).2 ⟨ha, hi⟩)
    have hlen : ((List.range (s.straps.ramBankCount * 0x2000)).map s.ramByte).length
        = s.straps.ramBankCount * 0x2000 := by
      rw [List.length_map, List.length_range]
    refine ⟨_, savedata_of_size hsize, by rw [hlen, hsize], hlen, fun a ha => ?_⟩
    rw [hlen] at ha
    rw [List.getElem?_map, List.getElem?_range ha, Option.map_some]
  · have hd : ¬ s.buffersDefined = true := by
      rw [buffersDefined_iff]
      obtain h | h := h <;> simp [h]
    have hsize := savedataSize_of_undefined hd
    exact ⟨savedata_of_size_none hsize, hsize⟩

end Sys2Proof.Machine
end

section
/-! PROOFS. The decode function by address ranges (spec/30_encoding.md R92, R96, R97): what a write to each region decodes to, with
the operands as numbers. -/

namespace Sys2Proof.Machine

/-! ### The operations of a region, operands as numbers (R92) -/

/-- The widest operand field is the whole data byte. -/
theorem lowField_eight (d : Byte) : lowField 8 d = d := BitVec.extractLsb'_eq_self

theorem decodeRegion0_eq (v : Variant) (a : Addr) (d : Byte) : decodeRegion0 v a d =
    match v with
    | .plain => .plainRamen (BitVec.ofNat 4 d.toNat)
    | .mbc1 => .mbc1Ramen (BitVec.ofNat 4 d.toNat)
    | .mbc2 => if gateOpen a then .mbc2Ramen (BitVec.ofNat 4 d.toNat) else .mbc2Nop0
    | .mbc3 => .mbc3Ramen (BitVec.ofNat 4 d.toNat)
    | .mbc5 => .mbc5Ramen (BitVec.ofNat 4 d.toNat) := by
  cases v with
  | plain | mbc1 | mbc3 | mbc5 => simp only [decodeRegion0, lowField_eq]
  | mbc2 => simp only [decodeRegion0, lowField_eq, bitEight_iff, decide_eq_true_eq]

theorem decodeBucket3_eq (v : Variant) (a : Addr) (d : Byte) : decodeBucket3 v a d =
    match v with
    | .plain => .plainNop1
    | .mbc1 => .mbc1Romlo (BitVec.ofNat 5 d.toNat)
    | .mbc2 => if gateOpen a then .mbc2Romb (BitVec.ofNat 4 d.toNat) else .mbc2Nop1
    | .mbc3 => .mbc3Romb (BitVec.ofNat 7 d.toNat)
    | .mbc5 => .mbc5Romhi (BitVec.ofNat 1 d.toNat) := by
  cases v with
  | plain => rfl
  | mbc1 | mbc3 | mbc5 => simp only [decodeBucket3, lowField_eq]
  | mbc2 => simp only [decodeBucket3, lowField_eq, bitEight_iff, decide_eq_true_eq]

theorem decodeRegion2_eq (v : Variant) (d : Byte) : decodeRegion2 v d =
    match v with
    | .plain => .plainNop2
    | .mbc1 => .mbc1Bank2 (BitVec.ofNat 2 d.toNat)
    | .mbc2 => .mbc2Nop2
    | .mbc3 => .mbc3Ramb (BitVec.ofNat 2 d.toNat) d
    | .mbc5 => .mbc5Ramb (BitVec.ofNat 4 d.toNat) := by
  cases v with
  | plain | mbc2 => rfl
  | mbc1 | mbc3 | mbc5 => simp only [decodeRegion2, lowField_eq]

theorem decodeRegion3_eq (v : Variant) (d : Byte) : decodeRegion3 v d =
    match v with
    | .plain => .plainNop3
    | .mbc1 => .mbc1Mode (BitVec.ofNat 1 d.toNat)
    | .mbc2 => .mbc2Nop3
    | .mbc3 => .mbc3Latch d
    | .mbc5 => .mbc5Nop3 := by
  cases v with
  | plain | mbc2 | mbc3 | mbc5 => rfl
  | mbc1 => simp only [decodeRegion3, lowField_eq]

/-! ### Region 1, where MBC5 alone tells bucket 2 from bucket 3 (R97) -/

theorem decode_mbc5_bucket2 {a : Addr} (hlo : 0x2000 ≤ a.toNat) (hhi : a.toNat < 0x3000) (d : Byte) :
    decode .mbc5 (busWord a d) = .mbc5Romlo d :=
  (decode_of_bucket2 .mbc5 hlo hhi d).trans (congrArg Instr.mbc5Romlo (lowField_eight d))

theorem decode_mbc5_bucket3 {a : Addr} (hlo : 0x3000 ≤ a.toNat) (hhi : a.toNat < 0x4000) (d : Byte) :
    decode .mbc5 (busWord a d) = .mbc5Romhi (BitVec.ofNat 1 d.toNat) :=
  (decode_of_bucket3 .mbc5 hlo hhi d).trans (decodeBucket3_eq .mbc5 a d)

theorem decode_mbc5_region1 {a : Addr} (hlo : 0x2000 ≤ a.toNat) (hhi : a.toNat < 0x4000) (d : Byte) :
    decode .mbc5 (busWord a d) = if a.toNat < 0x3000 then .mbc5Romlo d else .mbc5Romhi (BitVec.ofNat 1 d.toNat) := by
  split
  · next h => exact decode_mbc5_bucket2 hlo h d
  · next h => exact decode_mbc5_bucket3 (Nat.not_lt.1 h) hhi d

/-- Settles O3, region by region. -/
theorem decodeFollowsTheAddressMap : Obligations.DecodeFollowsTheAddressMap := by
  intro v a d
  refine ⟨fun h => decode_of_not_selected v h d,
    fun h => (decode_of_region0 v h d).trans (decodeRegion0_eq v a d), fun hlo hhi => ?_,
    fun hlo hhi => (decode_of_region2 v hlo hhi d).trans (decodeRegion2_eq v d),
    fun hlo hhi => (decode_of_region3 v hlo hhi d).trans (decodeRegion3_eq v d)⟩
  cases v with
  | plain | mbc1 | mbc2 | mbc3 => exact (decode_of_region1 (by decide) hlo hhi d).trans (decodeBucket3_eq _ a d)
  | mbc5 => exact decode_mbc5_region1 hlo hhi d

/-- The address 0x1000 above one of bucket 2, which is in bucket 3. -/
theorem toNat_add_bucket {a : Addr} (ha : a.toNat < 0x3000) : (a + 0x1000).toNat = a.toNat + 0x1000 := by
  have h : (a + 0x1000).toNat = (a.toNat + 0x1000) % 2 ^ 16 := BitVec.toNat_add a 0x1000
  omega

/-- Bucket 3 looks at nothing of the address but `A[8]`, which an address 0x1000 above shares. -/
theorem decodeBucket3_add_bucket (v : Variant) {a : Addr} (ha : a.toNat < 0x3000) (d : Byte) :
    decodeBucket3 v (a + 0x1000) d = decodeBucket3 v a d := by
  have hgate : gateOpen (a + 0x1000) ↔ gateOpen a := by
    simp only [gateOpen, toNat_add_bucket ha]
    omega
  simp only [decodeBucket3_eq, hgate]

/-- Settles O6: but for MBC5 both addresses are read by bucket 3's handler. -/
theorem romSelectBucketsShareOneHandler : Obligations.RomSelectBucketsShareOneHandler := by
  intro a d hlo hhi
  have hadd := toNat_add_bucket hhi
  have hlo' : 0x3000 ≤ (a + 0x1000).toNat := by omega
  have hhi' : (a + 0x1000).toNat < 0x4000 := by omega
  have low {v : Variant} (hv : v ≠ .mbc5) : decode v (busWord a d) = decodeBucket3 v a d :=
    decode_of_region1 hv hlo (by omega) d
  refine ⟨fun v hv => ?_, decode_mbc5_bucket2 hlo hhi d, decode_mbc5_bucket3 hlo' hhi' d, low (by decide),
    decode_of_bucket3 .plain hlo' hhi' d⟩
  have hv5 : v ≠ .mbc5 := by
    obtain rfl | rfl | rfl := hv <;> decide
  rw [low hv5, decode_of_bucket3 v hlo' hhi', decodeBucket3_add_bucket v hhi]

/-- Settles O7: each of the nine words is evaluated. -/
theorem sampleWordsDecode : Obligations.SampleWordsDecode :=
  ⟨rfl, rfl, rfl, rfl, rfl, rfl, rfl, rfl, rfl⟩

end Sys2Proof.Machine
end

section
/-! PROOFS. Decoding an encoded operation (spec/30_encoding.md R92, R94): the encoder's words as an address and a data byte, and the
operand fields read back from that byte. -/

namespace Sys2Proof

/-! ### Words by halves (R90) -/

theorem busWord_and (a b : Addr) (d e : Byte) : busWord a d &&& busWord b e = busWord (a &&& b) (d &&& e) :=
  BitVec.and_append

theorem busWord_or (a b : Addr) (d e : Byte) : busWord a d ||| busWord b e = busWord (a ||| b) (d ||| e) :=
  BitVec.or_append

theorem toNat_lt_of_field {n : Nat} (hn : n ≤ 8) (x : BitVec n) : x.toNat < 2 ^ 8 :=
  Nat.lt_of_lt_of_le x.isLt (Nat.pow_le_pow_right (by decide) hn)

/-- A field of at most 8 bits, put at the low end of a word, is put at the low end of the data byte. -/
theorem setWidth_eq_busWord {n : Nat} (hn : n ≤ 8) (x : BitVec n) : x.setWidth 24 = busWord 0#16 (x.setWidth 8) := by
  have hx := toNat_lt_of_field hn x
  apply BitVec.eq_of_toNat_eq
  rw [busWord, BitVec.toNat_append, BitVec.toNat_setWidth, BitVec.toNat_setWidth, BitVec.toNat_ofNat,
    Nat.zero_mod, Nat.zero_shiftLeft, Nat.zero_or]
  omega

/-- The encoder's words: the row's address bits, and a field at the low end of the data byte. -/
theorem busWord_or_setWidth {n : Nat} (hn : n ≤ 8) (a : Addr) (x : BitVec n) :
    busWord a 0#8 ||| x.setWidth 24 = busWord a (x.setWidth 8) := by
  rw [setWidth_eq_busWord hn, busWord_or, BitVec.or_zero, BitVec.zero_or]

/-! ### Operand fields of the data byte (R92) -/

/-- A field put at the low end of the data byte is read back. -/
theorem lowField_setWidth {n : Nat} (hn : n ≤ 8) (x : BitVec n) : lowField n (x.setWidth 8) = x := by
  have hx := toNat_lt_of_field hn x
  rw [lowField_eq, BitVec.toNat_setWidth, Nat.mod_eq_of_lt hx, BitVec.ofNat_toNat, BitVec.setWidth_eq]

/-- A field read from the data byte and put back is the byte with every other bit cleared. -/
theorem setWidth_lowField {n : Nat} (hn : n ≤ 8) (d : Byte) :
    (lowField n d).setWidth 8 = d &&& BitVec.ofNat 8 (2 ^ n - 1) := by
  have hpow : 2 ^ n ≤ 2 ^ 8 := Nat.pow_le_pow_right (by decide) hn
  have hpos := Nat.two_pow_pos n
  have hmask : (2 ^ n - 1) % 2 ^ 8 = 2 ^ n - 1 := Nat.mod_eq_of_lt (by omega)
  have hfield : d.toNat % 2 ^ n < 2 ^ 8 := by
    rw [← BitVec.toNat_ofNat]
    exact toNat_lt_of_field hn _
  apply BitVec.eq_of_toNat_eq
  rw [lowField_eq, BitVec.toNat_setWidth, BitVec.toNat_ofNat, Nat.mod_eq_of_lt hfield, BitVec.toNat_and,
    BitVec.toNat_ofNat, hmask, Nat.and_two_pow_sub_one_eq_mod]

/-- Putting a field of the data byte over that byte changes nothing. -/
theorem or_setWidth_lowField {n : Nat} (hn : n ≤ 8) (d : Byte) : d ||| (lowField n d).setWidth 8 = d := by
  rw [setWidth_lowField hn]
  apply BitVec.eq_of_getLsbD_eq
  intro i _
  rw [BitVec.getLsbD_or, BitVec.getLsbD_and]
  exact sup_inf_self

/-! ### The round trip (R94, R96) -/

/-- A row with one field `D[n-1:0]`: its operand is read back from the word the encoder writes. -/
theorem decode_encoded_field {v : Variant} (a : Addr) {n : Nat} (hn : n ≤ 8) {op : BitVec n → Instr}
    (hop : ∀ d, decodeWrite v a d = op (lowField n d)) (x : BitVec n) :
    decode v (busWord a 0#8 ||| x.setWidth 24) = op x := by
  rw [busWord_or_setWidth hn, decode_busWord, hop, lowField_setWidth hn]

/-- The row with two fields, `D[1:0]` within `D[7:0]`: its word carries the whole data byte. -/
theorem encode_mbc3Ramb_lowField (d : Byte) : encode (.mbc3Ramb (lowField 2 d) d) = busWord 0x4000 d := by
  have hs : (0x400000 : BusWord) ||| d.setWidth 24 = busWord 0x4000 d :=
    (busWord_or_setWidth (by decide) 0x4000 d).trans (by rw [BitVec.setWidth_eq])
  rw [encode, hs, setWidth_eq_busWord (by decide), busWord_or, BitVec.or_zero, or_setWidth_lowField (by decide)]

/-- Under the strap a row names, its operations are read back: rows without an operand, rows with one field, `MBC3.RAMB`. -/
theorem decode_encode_of_variant {v : Variant} {i : Instr} (hwf : i.wellFormed = true) (hv : i.variant = some v) :
    decode v (encode i) = i := by
  cases i with
  | plainNop1 | plainNop2 | plainNop3 | mbc2Nop0 | mbc2Nop1 | mbc2Nop2 | mbc2Nop3 | mbc5Nop3 =>
    cases hv
    rfl
  | anyNosel => cases hv
  | plainRamen n | mbc1Ramen n | mbc3Ramen n | mbc5Ramen n =>
    cases hv
    exact decode_encoded_field 0x0000 (by decide) (fun _ => rfl) n
  | mbc2Ramen n =>
    cases hv
    exact decode_encoded_field 0x0100 (by decide) (fun _ => rfl) n
  | mbc1Romlo b | mbc3Romb b | mbc5Romlo b =>
    cases hv
    exact decode_encoded_field 0x2000 (by decide) (fun _ => rfl) b
  | mbc2Romb b =>
    cases hv
    exact decode_encoded_field 0x2100 (by decide) (fun _ => rfl) b
  | mbc5Romhi h =>
    cases hv
    exact decode_encoded_field 0x3000 (by decide) (fun _ => rfl) h
  | mbc1Bank2 u | mbc5Ramb u =>
    cases hv
    exact decode_encoded_field 0x4000 (by decide) (fun _ => rfl) u
  | mbc1Mode m =>
    cases hv
    exact decode_encoded_field 0x6000 (by decide) (fun _ => rfl) m
  | mbc3Latch l =>
    cases hv
    exact decode_encoded_field (v := .mbc3) (op := .mbc3Latch) 0x6000 (by decide)
      (fun d => congrArg Instr.mbc3Latch (Machine.lowField_eight d).symm) l
  | mbc3Ramb u s =>
    cases hv
    obtain rfl : u = lowField 2 s := beq_iff_eq.1 hwf
    rw [encode_mbc3Ramb_lowField, decode_busWord]
    rfl

/-- `ANY.NOSEL` is read under every strap. -/
theorem decode_encode_anyNosel (v : Variant) : decode v (encode .anyNosel) = .anyNosel := rfl

/-- A row is read under every strap or under the one it names. -/
theorem readUnder_iff (i : Instr) (v : Variant) : i.readUnder v = true ↔ i.variant = none ∨ i.variant = some v := by
  simp only [Instr.readUnder, Bool.or_eq_true, beq_iff_eq]

/-- `ANY.NOSEL` alone names no strap. -/
theorem eq_anyNosel_of_variant_none {i : Instr} (hi : i.variant = none) : i = .anyNosel := by
  cases i with
  | anyNosel => rfl
  | _ => cases hi

/-- Settles O1, by the strap the row names. -/
theorem decodeUndoesEncode : Obligations.DecodeUndoesEncode := by
  intro v i hwf hread
  obtain hnone | hv := (readUnder_iff i v).1 hread
  · rw [eq_anyNosel_of_variant_none hnone, decode_encode_anyNosel]
  · exact decode_encode_of_variant hwf hv

end Sys2Proof
end

section
/-! PROOFS. The decoder and the opcode map as data (spec/30_encoding.md R94, R95, R100, R106): the row of the operation decoded is
selected by the word, no other row is, and the encoder gives back the bits that row looks at. -/

namespace Sys2Proof

/-! ### The address bits a row's mask looks at (R91) -/

/-- The address bits from `n` up are the address in units of `2 ^ n`. -/
theorem and_highBits (a : Addr) (n : Nat) {k : Nat} (ha : a.toNat / 2 ^ n = k) :
    a &&& BitVec.allOnes 16 <<< n = BitVec.ofNat 16 (k * 2 ^ n) := by
  apply BitVec.eq_of_toNat_eq
  rw [← BitVec.shiftLeft_ushiftRight, BitVec.toNat_shiftLeft, BitVec.toNat_ushiftRight, BitVec.toNat_ofNat,
    Nat.shiftRight_eq_div_pow, Nat.shiftLeft_eq, ha]

/-- `A[15:13]`, the region. -/
theorem and_regionBits {a : Addr} (k : Nat) (ha : a.toNat / 0x2000 = k) : a &&& 0xE000 = BitVec.ofNat 16 (k * 0x2000) :=
  and_highBits a 13 ha

/-- `A[15:12]`, the bucket under `A[15]`. -/
theorem and_bucketBits {a : Addr} (k : Nat) (ha : a.toNat / 0x1000 = k) : a &&& 0xF000 = BitVec.ofNat 16 (k * 0x1000) :=
  and_highBits a 12 ha

/-- `A[15]` alone. -/
theorem and_selectBit {a : Addr} (ha : 0x8000 ≤ a.toNat) : a &&& 0x8000 = 0x8000 :=
  and_highBits a 15 (k := 1) (by omega)

/-- The region with MBC2's gate `A[8]`. -/
theorem and_regionBits_gate (a : Addr) : a &&& 0xE100 = (a &&& 0xE000) ||| if bitEight a then 0x0100 else 0 := by
  have hgate : a &&& BitVec.twoPow 16 8 = if bitEight a then BitVec.twoPow 16 8 else 0 := BitVec.and_twoPow a 8
  calc a &&& 0xE100 = a &&& (0xE000 ||| BitVec.twoPow 16 8) := rfl
    _ = (a &&& 0xE000) ||| (a &&& BitVec.twoPow 16 8) := BitVec.and_or_distrib_left
    _ = _ := by
      rw [hgate]
      rfl

/-! ### An operation and a word that fits its row (R94, R95) -/

/-- The operation's row, with the word's fixed bits the row's, and the encoder's word the bits the row looks at. -/
def FitsRow (w : BusWord) (i : Instr) : Prop :=
  ∃ r, i.row = some r ∧ r.variant = i.variant ∧ w &&& r.mask = r.value ∧ encode i = w &&& r.care

/-- A row whose mask `ma` lies in the address and whose operand bits `md` lie in the data byte. -/
theorem fitsRow_of_halves {a : Addr} {d : Byte} {i : Instr} (ma va : Addr) (md : Byte)
    (hrow : i.row = some ⟨i.mnemonic, i.variant, busWord ma 0#8, busWord va 0#8, busWord 0#16 md⟩)
    (ha : a &&& ma = va) (henc : encode i = busWord va (d &&& md)) : FitsRow (busWord a d) i := by
  refine ⟨_, hrow, rfl, ?_, ?_⟩
  · rw [busWord_and, ha, BitVec.and_zero]
  · rw [henc, Row.care, busWord_or, BitVec.or_zero, BitVec.zero_or, busWord_and, ha]

/-- A row without an operand. -/
theorem fitsRow_of_nop {a : Addr} {i : Instr} (d : Byte) (ma va : Addr)
    (hrow : i.row = some ⟨i.mnemonic, i.variant, busWord ma 0#8, busWord va 0#8, 0⟩)
    (ha : a &&& ma = va) (henc : encode i = busWord va 0#8) : FitsRow (busWord a d) i :=
  fitsRow_of_halves ma va 0#8 hrow ha (by rw [henc, BitVec.and_zero])

/-- A row with one field, `D[n-1:0]`. -/
theorem fitsRow_of_field {a : Addr} {d : Byte} {i : Instr} (ma va : Addr) (n : Nat) (hn : n ≤ 8)
    (hrow : i.row = some
      ⟨i.mnemonic, i.variant, busWord ma 0#8, busWord va 0#8, busWord 0#16 (BitVec.ofNat 8 (2 ^ n - 1))⟩)
    (ha : a &&& ma = va) (henc : encode i = busWord va 0#8 ||| (lowField n d).setWidth 24) : FitsRow (busWord a d) i :=
  fitsRow_of_halves ma va _ hrow ha (by rw [henc, busWord_or_setWidth hn, setWidth_lowField hn])

/-! ### The operation decoded fits its row, region by region (R96) -/

theorem anyNosel_fitsRow {a : Addr} (ha : 0x8000 ≤ a.toNat) (d : Byte) : FitsRow (busWord a d) .anyNosel :=
  fitsRow_of_nop d 0x8000 0x8000 rfl (and_selectBit ha) rfl

theorem decodeRegion0_fitsRow (v : Variant) {a : Addr} (ha : a.toNat < 0x2000) (d : Byte) :
    FitsRow (busWord a d) (decodeRegion0 v a d) := by
  have hr : a &&& 0xE000 = 0x0000 := and_regionBits 0 (by omega)
  cases v with
  | plain | mbc1 | mbc3 | mbc5 => exact fitsRow_of_field 0xE000 0x0000 4 (by decide) rfl hr rfl
  | mbc2 =>
    have hg := and_regionBits_gate a
    simp only [decodeRegion0]
    split
    · next h8 => exact fitsRow_of_field 0xE100 0x0100 4 (by decide) rfl (by rw [hg, hr, if_pos h8]; rfl) rfl
    · next h8 => exact fitsRow_of_nop d 0xE100 0x0000 rfl (by rw [hg, hr, if_neg h8]; rfl) rfl

/-- Bucket 3's handler, on both halves of region 1, for every variant but MBC5. -/
theorem decodeBucket3_fitsRow {v : Variant} (hv : v ≠ .mbc5) {a : Addr} (hlo : 0x2000 ≤ a.toNat)
    (hhi : a.toNat < 0x4000) (d : Byte) : FitsRow (busWord a d) (decodeBucket3 v a d) := by
  have hr : a &&& 0xE000 = 0x2000 := and_regionBits 1 (by omega)
  cases v with
  | plain => exact fitsRow_of_nop d 0xE000 0x2000 rfl hr rfl
  | mbc1 => exact fitsRow_of_field 0xE000 0x2000 5 (by decide) rfl hr rfl
  | mbc3 => exact fitsRow_of_field 0xE000 0x2000 7 (by decide) rfl hr rfl
  | mbc5 => exact absurd rfl hv
  | mbc2 =>
    have hg := and_regionBits_gate a
    simp only [decodeBucket3]
    split
    · next h8 => exact fitsRow_of_field 0xE100 0x2100 4 (by decide) rfl (by rw [hg, hr, if_pos h8]; rfl) rfl
    · next h8 => exact fitsRow_of_nop d 0xE100 0x2000 rfl (by rw [hg, hr, if_neg h8]; rfl) rfl

/-- MBC5's low byte of the bank number, in bucket 2. -/
theorem mbc5Romlo_fitsRow {a : Addr} (hlo : 0x2000 ≤ a.toNat) (hhi : a.toNat < 0x3000) (d : Byte) :
    FitsRow (busWord a d) (.mbc5Romlo (lowField 8 d)) :=
  fitsRow_of_field 0xF000 0x2000 8 (by decide) rfl (and_bucketBits 2 (by omega)) rfl

/-- MBC5's high bit of the bank number, in bucket 3. -/
theorem mbc5Romhi_fitsRow {a : Addr} (hlo : 0x3000 ≤ a.toNat) (hhi : a.toNat < 0x4000) (d : Byte) :
    FitsRow (busWord a d) (.mbc5Romhi (lowField 1 d)) :=
  fitsRow_of_field 0xF000 0x3000 1 (by decide) rfl (and_bucketBits 3 (by omega)) rfl

theorem decodeRegion2_fitsRow (v : Variant) {a : Addr} (hlo : 0x4000 ≤ a.toNat) (hhi : a.toNat < 0x6000) (d : Byte) :
    FitsRow (busWord a d) (decodeRegion2 v d) := by
  have hr : a &&& 0xE000 = 0x4000 := and_regionBits 2 (by omega)
  cases v with
  | plain | mbc2 => exact fitsRow_of_nop d 0xE000 0x4000 rfl hr rfl
  | mbc1 => exact fitsRow_of_field 0xE000 0x4000 2 (by decide) rfl hr rfl
  | mbc3 =>
    have henc : encode (.mbc3Ramb (lowField 2 d) d) = busWord 0x4000 (d &&& 0xFF) :=
      (encode_mbc3Ramb_lowField d).trans (congrArg (busWord 0x4000) BitVec.and_allOnes.symm)
    exact fitsRow_of_halves 0xE000 0x4000 0xFF rfl hr henc
  | mbc5 => exact fitsRow_of_field 0xE000 0x4000 4 (by decide) rfl hr rfl

theorem decodeRegion3_fitsRow (v : Variant) {a : Addr} (hlo : 0x6000 ≤ a.toNat) (hhi : a.toNat < 0x8000) (d : Byte) :
    FitsRow (busWord a d) (decodeRegion3 v d) := by
  have hr : a &&& 0xE000 = 0x6000 := and_regionBits 3 (by omega)
  cases v with
  | plain | mbc2 | mbc5 => exact fitsRow_of_nop d 0xE000 0x6000 rfl hr rfl
  | mbc1 => exact fitsRow_of_field 0xE000 0x6000 1 (by decide) rfl hr rfl
  | mbc3 =>
    have henc : encode (.mbc3Latch d) = busWord 0x6000 0#8 ||| (lowField 8 d).setWidth 24 := by
      rw [Machine.lowField_eight]
      rfl
    exact fitsRow_of_field 0xE000 0x6000 8 (by decide) rfl hr henc

/-- The same on the two bus values, by the region of the address. -/
theorem decode_busWord_fitsRow (v : Variant) (a : Addr) (d : Byte) :
    FitsRow (busWord a d) (decode v (busWord a d)) := by
  obtain h8 | h8 := Nat.lt_or_ge a.toNat 0x8000
  swap
  · rw [Machine.decode_of_not_selected v h8]
    exact anyNosel_fitsRow h8 d
  obtain h2 | h2 := Nat.lt_or_ge a.toNat 0x2000
  · rw [Machine.decode_of_region0 v h2]
    exact decodeRegion0_fitsRow v h2 d
  obtain h6 | h6 := Nat.lt_or_ge a.toNat 0x6000
  swap
  · rw [Machine.decode_of_region3 v h6 h8]
    exact decodeRegion3_fitsRow v h6 h8 d
  obtain h4 | h4 := Nat.lt_or_ge a.toNat 0x4000
  swap
  · rw [Machine.decode_of_region2 v h4 h6]
    exact decodeRegion2_fitsRow v h4 h6 d
  by_cases hv : v = .mbc5
  swap
  · rw [Machine.decode_of_region1 hv h2 h4]
    exact decodeBucket3_fitsRow hv h2 h4 d
  subst hv
  obtain h3 | h3 := Nat.lt_or_ge a.toNat 0x3000
  · rw [Machine.decode_of_bucket2 .mbc5 h2 h3]
    exact mbc5Romlo_fitsRow h2 h3 d
  · rw [Machine.decode_of_bucket3 .mbc5 h3 h4]
    exact mbc5Romhi_fitsRow h3 h4 d

theorem decode_fitsRow (v : Variant) (w : BusWord) : FitsRow w (decode v w) := by
  rw [← busWord_addrOf_dataOf w]
  exact decode_busWord_fitsRow v _ _

/-- Settles O2: the encoder's word is the bits of the word that the row looks at. -/
theorem encodeKeepsEveryBitTheRowReads : Obligations.EncodeKeepsEveryBitTheRowReads := by
  intro v w
  obtain ⟨r, hrow, -, -, henc⟩ := decode_fitsRow v w
  exact ⟨r, hrow, by rw [henc, BitVec.and_assoc, BitVec.and_self]⟩

/-! ### Exactly one row is selected (R106) -/

theorem selects_iff (r : Row) (v : Variant) (w : BusWord) :
    r.selects v w = true ↔ (r.variant = none ∨ r.variant = some v) ∧ w &&& r.mask = r.value := by
  simp only [Row.selects, Bool.and_eq_true, Bool.or_eq_true, beq_iff_eq]

/-- The row of the operation decoded is selected by the word: its fixed bits fit, and the strap admits it. -/
theorem selects_row_decode {v : Variant} {w : BusWord} {r : Row} (hrow : (decode v w).row = some r) :
    r.selects v w = true := by
  obtain ⟨r', hrow', hvar, hmask, -⟩ := decode_fitsRow v w
  obtain rfl : r = r' := Option.some.inj (hrow.symm.trans hrow')
  have hread := (readUnder_iff _ v).1 (Machine.decode_readUnder v w)
  rw [← hvar] at hread
  exact (selects_iff r v w).2 ⟨hread, hmask⟩

theorem mem_opcodeRows_of_row {i : Instr} {r : Row} (hrow : i.row = some r) : r ∈ opcodeRows :=
  List.mem_of_find?_eq_some hrow

theorem mnemonic_of_row {i : Instr} {r : Row} (hrow : i.row = some r) : r.mnemonic = i.mnemonic :=
  by
  have h := List.find?_some hrow
  exact beq_iff_eq.1 h

/-- Two rows that one strap admits. -/
abbrev Row.ShareStrap (r r' : Row) : Prop :=
  r.variant = none ∨ r'.variant = none ∨ r.variant = r'.variant

/-- Two rows whose fixed bits agree wherever both fix one. -/
abbrev Row.Agree (r r' : Row) : Prop :=
  r.value &&& r'.mask = r'.value &&& r.mask

theorem shareStrap_of_selects {r r' : Row} {v : Variant} {w : BusWord} (h : r.selects v w = true)
    (h' : r'.selects v w = true) : r.ShareStrap r' := by
  obtain hv | hv := ((selects_iff r v w).1 h).1
  · exact .inl hv
  obtain hv' | hv' := ((selects_iff r' v w).1 h').1
  · exact .inr (.inl hv')
  · exact .inr (.inr (hv.trans hv'.symm))

theorem agree_of_selects {r r' : Row} {v : Variant} {w : BusWord} (h : r.selects v w = true)
    (h' : r'.selects v w = true) : r.Agree r' := by
  have hm := ((selects_iff r v w).1 h).2
  have hm' := ((selects_iff r' v w).1 h').2
  rw [Row.Agree, ← hm, ← hm', BitVec.and_assoc, BitVec.and_assoc, BitVec.and_comm r.mask]

/-- The table's own property behind R106: no two of the 24 rows share a strap and agree. -/
theorem opcodeRows_disjoint :
    ∀ r ∈ opcodeRows, ∀ r' ∈ opcodeRows, r.ShareStrap r' → r.Agree r' → r = r' := by
  decide

theorem opcodeRows_nodup : opcodeRows.Nodup := by
  decide

/-- A word selects no other row than the one of the operation decoded. -/
theorem eq_of_selects {v : Variant} {w : BusWord} {r r' : Row} (hrow : (decode v w).row = some r)
    (hmem : r' ∈ opcodeRows) (hsel : r'.selects v w = true) : r' = r := by
  have hr := selects_row_decode hrow
  exact opcodeRows_disjoint r' hmem r (mem_opcodeRows_of_row hrow) (shareStrap_of_selects hsel hr)
    (agree_of_selects hsel hr)

/-- The rows a word selects are the row of the operation decoded alone. -/
theorem filter_selects {v : Variant} {w : BusWord} {r : Row} (hrow : (decode v w).row = some r) :
    opcodeRows.filter (fun r' => r'.selects v w) = [r] := by
  have heq : ∀ r' ∈ opcodeRows, r'.selects v w = (r' == r) := fun r' hmem => by
    rw [Bool.eq_iff_iff, beq_iff_eq]
    exact ⟨eq_of_selects hrow hmem, fun h => h ▸ selects_row_decode hrow⟩
  rw [List.filter_congr heq, List.filter_beq, List.count_eq_one_of_mem opcodeRows_nodup (mem_opcodeRows_of_row hrow)]
  rfl

/-- Settles O4: the operation decoded has a row, and that row alone is selected. -/
theorem exactlyOneRowIsSelected : Obligations.ExactlyOneRowIsSelected := by
  intro v w
  obtain ⟨r, hrow, -⟩ := decode_fitsRow v w
  rw [filter_selects hrow, List.map_singleton, mnemonic_of_row hrow]

/-! ### Don't-care bits (R100) -/

theorem decodeRegion0_wellFormed (v : Variant) (a : Addr) (d : Byte) : (decodeRegion0 v a d).wellFormed = true := by
  cases v with
  | plain | mbc1 | mbc3 | mbc5 => rfl
  | mbc2 =>
    simp only [decodeRegion0]
    split <;> rfl

theorem decodeBucket3_wellFormed (v : Variant) (a : Addr) (d : Byte) : (decodeBucket3 v a d).wellFormed = true := by
  cases v with
  | plain | mbc1 | mbc3 | mbc5 => rfl
  | mbc2 =>
    simp only [decodeBucket3]
    split <;> rfl

theorem decodeBucket2_wellFormed (v : Variant) (a : Addr) (d : Byte) : (decodeBucket2 v a d).wellFormed = true := by
  cases v with
  | plain | mbc5 => rfl
  | mbc1 | mbc2 | mbc3 => simp only [decodeBucket2, decodeBucket3_wellFormed]

theorem decodeRegion2_wellFormed (v : Variant) (d : Byte) : (decodeRegion2 v d).wellFormed = true := by
  cases v with
  | plain | mbc1 | mbc2 | mbc5 => rfl
  | mbc3 => exact beq_self_eq_true (lowField 2 d)

theorem decodeRegion3_wellFormed (v : Variant) (d : Byte) : (decodeRegion3 v d).wellFormed = true := by
  cases v <;> rfl

/-- Both fields of `MBC3.RAMB` are read from one data byte (R92), and no other row has a condition. -/
theorem decode_wellFormed (v : Variant) (w : BusWord) : (decode v w).wellFormed = true := by
  unfold decode decodeWrite
  split
  · rfl
  · split
    · exact decodeRegion0_wellFormed ..
    · exact decodeRegion0_wellFormed ..
    · exact decodeBucket2_wellFormed ..
    · exact decodeBucket3_wellFormed ..
    · exact decodeRegion2_wellFormed ..
    · exact decodeRegion2_wellFormed ..
    · exact decodeRegion3_wellFormed ..

/-- The encoder's word of the operation decoded is the word without its don't-care bits. -/
theorem encode_decode {v : Variant} {w : BusWord} {r : Row} (hrow : (decode v w).row = some r) :
    encode (decode v w) = w &&& r.care := by
  obtain ⟨r', hrow', -, -, henc⟩ := decode_fitsRow v w
  obtain rfl : r = r' := Option.some.inj (hrow.symm.trans hrow')
  exact henc

/-- An operation decoded is read back from the encoder's word, under the same strap. -/
theorem decode_encode_decode (v : Variant) (w : BusWord) : decode v (encode (decode v w)) = decode v w :=
  decodeUndoesEncode v _ (decode_wellFormed v w) (Machine.decode_readUnder v w)

/-- A row looks at its fixed bits. -/
theorem care_and_mask (r : Row) : r.care &&& r.mask = r.mask := by
  apply BitVec.eq_of_getLsbD_eq
  intro i _
  rw [Row.care, BitVec.getLsbD_and, BitVec.getLsbD_or, Bool.and_comm]
  exact inf_sup_self

/-- The bits a row looks at hold its fixed bits, so words that agree on them select it alike. -/
theorem selects_of_care_eq {r : Row} {v : Variant} {w w' : BusWord} (hcare : w &&& r.care = w' &&& r.care)
    (hsel : r.selects v w = true) : r.selects v w' = true := by
  obtain ⟨hv, hm⟩ := (selects_iff r v w).1 hsel
  refine (selects_iff r v w').2 ⟨hv, ?_⟩
  rw [← hm, ← care_and_mask r, ← BitVec.and_assoc, ← BitVec.and_assoc, hcare]

/-- Settles O5: both words select the row, so the encoder gives the two operations one word, from which both are read back. -/
theorem dontCareBitsHaveNoEffect : Obligations.DontCareBitsHaveNoEffect := by
  intro v w w' r hrow hcare
  obtain ⟨r', hrow', -⟩ := decode_fitsRow v w'
  obtain rfl : r = r' :=
    eq_of_selects hrow' (mem_opcodeRows_of_row hrow) (selects_of_care_eq hcare (selects_row_decode hrow))
  have henc : encode (decode v w') = encode (decode v w) := by
    rw [encode_decode hrow', encode_decode hrow, hcare]
  rw [← decode_encode_decode v w', henc, decode_encode_decode]

end Sys2Proof
end

section
/-! PROOFS. Region 0, RAM/RTC enable (spec/40_ram_enable.md): the gate of MBC2 (R124), and what a RAM-enable write does and leaves
alone (R120 to R126). -/

namespace Sys2Proof.Machine

/-! ### MBC2's gate -/

/-- Settles O13: with the gate closed the write decodes to one of the two ignored rows. -/
theorem mbc2NeedsAddressBitEight : Obligations.Mbc2NeedsAddressBitEight := fun _ d s ha hgate =>
  ⟨decode_mbc2_gate_closed ha hgate d, exec_of_mem_ignoredRows (decode_mbc2_gate_closed_ignored ha hgate d) s⟩

/-! ### The RAM-enable write -/

/-- The five `*.RAMEN` rows share one meaning (R121 to R126). -/
theorem exec_of_mem_ramEnableRows {n : BitVec 4} {i : Instr} (hi : i ∈ ramEnableRows n) (s : State) :
    exec i s = .next (ramEnableWrite n s) := by
  simp only [ramEnableRows, List.mem_cons, List.not_mem_nil, or_false] at hi
  obtain rfl | rfl | rfl | rfl | rfl := hi <;> rfl

theorem ramEnableWrite_ramEnabled (n : BitVec 4) (s : State) : (ramEnableWrite n s).ramEnabled = enableValue n := by
  rw [ramEnableWrite_eq]
  split <;> rfl

/-- With the chip the one command is `setEnabled`. -/
theorem ramEnableWrite_rtc_of_chip {s : State} (h : s.straps.hasRtc = true) (n : BitVec 4) :
    (ramEnableWrite n s).rtcIssued = s.rtcIssued ++ [.setEnabled (enableValue n)]
      ∧ (ramEnableWrite n s).rtc = s.rtc.setEnabled (enableValue n) := by
  rw [ramEnableWrite_eq, if_pos h]
  exact ⟨rfl, rfl⟩

/-- Without the chip there is no command. -/
theorem ramEnableWrite_sameRtc {s : State} (h : s.straps.hasRtc = false) (n : BitVec 4) :
    SameRtc s (ramEnableWrite n s) := by
  rw [ramEnableWrite_eq, if_neg (Bool.eq_false_iff.1 h)]
  exact ⟨rfl, rfl⟩

/-- The status is the port's answer after the command (R42, R236). -/
theorem ramEnableWrite_ramVis (n : BitVec 4) (s : State) :
    (ramEnableWrite n s).ramVis = ⟨enableValue n, s.straps.hasRtc && (ramEnableWrite n s).rtc.getActive,
      visibleRamBank s.ramBankSelect.toNat s.straps.ramBankCount⟩ := by
  rw [ramEnableWrite_eq]
  split
  · next h => rw [h, Bool.true_and]
  · next h => rw [Bool.eq_false_iff.2 h, Bool.false_and]

theorem ramEnableWrite_ramBankSelect (n : BitVec 4) (s : State) :
    (ramEnableWrite n s).ramBankSelect = s.ramBankSelect := by
  rw [ramEnableWrite_eq]
  split <;> rfl

theorem ramEnableWrite_bankingMode (n : BitVec 4) (s : State) : (ramEnableWrite n s).bankingMode = s.bankingMode := by
  rw [ramEnableWrite_eq]
  split <;> rfl

theorem ramEnableWrite_sameRomMapping (n : BitVec 4) (s : State) : SameRomMapping s (ramEnableWrite n s) := by
  rw [ramEnableWrite_eq]
  split <;> exact ⟨rfl, rfl, rfl⟩

/-- Settles O15: the rows share `RamEnableWrite`, and its value is the comparison of the nibble with 0xA. -/
theorem ramEnableWriteEffect : Obligations.RamEnableWriteEffect := by
  intro n i s hi
  rw [← enableValue_eq]
  exact ⟨ramEnableWrite n s, exec_of_mem_ramEnableRows hi s, ramEnableWrite_ramEnabled n s,
    fun h => ramEnableWrite_rtc_of_chip h n, fun h => ramEnableWrite_sameRtc h n, ramEnableWrite_ramVis n s,
    ramEnableWrite_ramBankSelect n s, ramEnableWrite_bankingMode n s, ramEnableWrite_sameRomMapping n s,
    ramEnableWrite_sameSurroundings n s⟩

end Sys2Proof.Machine
end

section
/-! PROOFS. Region 1, ROM bank select (spec/41_rom_bank_select.md): what the writes that load `romBankSelect` do and leave alone
(R141 to R148). -/

namespace Sys2Proof.Machine

/-! ### What a ROM refresh after a bank number leaves alone -/

/-- Everything outside the ROM mapping as before: the RAM side, the mode, the RTC port and the surroundings. -/
def SameOutsideRomMapping (s t : State) : Prop :=
  t.ramBankSelect = s.ramBankSelect ∧ t.ramEnabled = s.ramEnabled ∧ t.bankingMode = s.bankingMode
    ∧ t.ramVis = s.ramVis ∧ SameRtc s t ∧ SameSurroundings s t

theorem refreshRom_setRomBankSelect_sameOutsideRomMapping (r : BitVec 9) (s : State) :
    SameOutsideRomMapping s (refreshRom (s.setRomBankSelect r)) := by
  rw [refreshRom_eq]
  exact ⟨rfl, rfl, rfl, rfl, ⟨rfl, rfl⟩, .refl s⟩

theorem refreshRomStd_setRomBankSelect_sameOutsideRomMapping (r : BitVec 9) (s : State) :
    SameOutsideRomMapping s (refreshRomStd (s.setRomBankSelect r)) :=
  ⟨rfl, rfl, rfl, rfl, ⟨rfl, rfl⟩, .refl s⟩

/-! ### The writes that end in the standard refresh (R143, R145, R147, R148) -/

/-- The new bank number, its bank by the standard path, and the frame: the low window is not written (R39). -/
theorem refreshRomStd_setRomBankSelect_effect {s : State} {v : Variant} (hv : s.straps.variant = v) {r : BitVec 9} {k : Nat}
    (hr : r.toNat = k) :
    (refreshRomStd (s.setRomBankSelect r)).romBankSelect.toNat = k
      ∧ (refreshRomStd (s.setRomBankSelect r)).romBank = standardBank v k s.straps.romBankCount
      ∧ (refreshRomStd (s.setRomBankSelect r)).rom0Window = s.rom0Window
      ∧ SameOutsideRomMapping s (refreshRomStd (s.setRomBankSelect r)) := by
  subst hv hr
  exact ⟨rfl, stdBank_eq _ _ _, rfl, refreshRomStd_setRomBankSelect_sameOutsideRomMapping r s⟩

/-- MBC2 with `A[8] = 1` accepts the write (R143). -/
theorem decode_mbc2_region1_gate_open {a : Addr} (hlo : 0x2000 ≤ a.toNat) (hhi : a.toNat < 0x4000) (hgate : gateOpen a)
    (d : Byte) : decode .mbc2 (busWord a d) = .mbc2Romb (BitVec.ofNat 4 d.toNat) := by
  rw [decode_of_region1 (by decide) hlo hhi, decodeBucket3_eq]
  exact if_pos hgate

theorem decode_mbc3_region1 {a : Addr} (hlo : 0x2000 ≤ a.toNat) (hhi : a.toNat < 0x4000) (d : Byte) :
    decode .mbc3 (busWord a d) = .mbc3Romb (BitVec.ofNat 7 d.toNat) :=
  (decode_of_region1 (by decide) hlo hhi d).trans (decodeBucket3_eq .mbc3 a d)

/-- Settles O18: the nibble replaces the register, and MBC2 remaps nothing. -/
theorem mbc2RombEffect : Obligations.Mbc2RombEffect :=
  ⟨fun _ d hlo hhi hgate => decode_mbc2_region1_gate_open hlo hhi hgate d,
    fun b _ hv => ⟨_, rfl, refreshRomStd_setRomBankSelect_effect hv (replaceSelect_toNat (by decide) b)⟩⟩

/-- Settles O19: the seven bits replace the register, and MBC3 remaps nothing. -/
theorem mbc3RombEffect : Obligations.Mbc3RombEffect :=
  ⟨fun _ d hlo hhi => decode_mbc3_region1 hlo hhi d,
    fun b _ hv => ⟨_, rfl, refreshRomStd_setRomBankSelect_effect hv (replaceSelect_toNat (by decide) b)⟩⟩

/-- Settles O20: the low byte is merged under bit 8. -/
theorem mbc5RomloEffect : Obligations.Mbc5RomloEffect := fun b s hv =>
  ⟨_, rfl, refreshRomStd_setRomBankSelect_effect hv (mergeLowEight_toNat s.romBankSelect b)⟩

/-- Settles O21: bit 8 is merged over the low byte. -/
theorem mbc5RomhiEffect : Obligations.Mbc5RomhiEffect := fun h s hv =>
  ⟨_, rfl, refreshRomStd_setRomBankSelect_effect hv (mergeBitEight_toNat s.romBankSelect h)⟩

/-! ### `MBC1.ROMLO` (R141) -/

/-- The register `MBC1.ROMLO` loads: replaced in RAM-banking mode without the multicart wiring, merged otherwise. -/
def romloSelect (b : BitVec 5) (s : State) : BitVec 9 :=
  if s.bankingMode && !s.straps.multi64Quirk then replaceSelect b else mergeLowFive s.romBankSelect b

theorem exec_mbc1Romlo (b : BitVec 5) (s : State) :
    exec (.mbc1Romlo b) s = .next (refreshRom (s.setRomBankSelect (romloSelect b s))) := rfl

theorem romloSelect_toNat (b : BitVec 5) (s : State) :
    (romloSelect b s).toNat =
      if s.bankingMode = true ∧ s.straps.multi64Quirk = false then b.toNat
      else s.romBankSelect.toNat / 32 * 32 + b.toNat := by
  simp only [romloSelect, Bool.and_eq_true, Bool.not_eq_true']
  split
  · exact replaceSelect_toNat (by decide) b
  · exact mergeLowFive_toNat s.romBankSelect b

/-- A multicart always merges, so the bits its block is made of are kept. -/
theorem romloSelect_block {s : State} (hq : s.straps.multi64Quirk = true) (b : BitVec 5) :
    (romloSelect b s).toNat / 32 = s.romBankSelect.toNat / 32 := by
  have hb := b.isLt
  rw [romloSelect_toNat, if_neg (by simp [hq])]
  omega

/-- The high window is the view of the new register (R36, R37, R41). -/
theorem refreshRom_setRomBankSelect_romBank (r : BitVec 9) (s : State) :
    (refreshRom (s.setRomBankSelect r)).romBank =
      if s.bankingMode = true ∧ s.straps.multi64Quirk = true then multicartBank r.toNat
      else standardBank s.straps.variant r.toNat s.straps.romBankCount := by
  rw [refreshRom_eq]
  rfl

/-- The low window moves on a multicart alone (R40, R41). -/
theorem refreshRom_setRomBankSelect_rom0Window (r : BitVec 9) (s : State) :
    (refreshRom (s.setRomBankSelect r)).rom0Window =
      if s.straps.multi64Quirk = true then (if s.bankingMode = true then 16 * (r.toNat / 32 % 4) else 0)
      else s.rom0Window := by
  rw [refreshRom_eq]
  cases hq : s.straps.multi64Quirk <;> simp [State.viewRom0Window, hq]

theorem refreshRom_romloSelect_rom0Window (b : BitVec 5) (s : State) :
    (refreshRom (s.setRomBankSelect (romloSelect b s))).rom0Window =
      if s.straps.multi64Quirk = true then (if s.bankingMode = true then 16 * (s.romBankSelect.toNat / 32 % 4) else 0)
      else s.rom0Window := by
  rw [refreshRom_setRomBankSelect_rom0Window]
  split
  · next hq => rw [romloSelect_block hq]
  · rfl

/-- Settles O17: the register is replaced or merged, both windows are refreshed from it, and a multicart's block is kept. -/
theorem mbc1RomloEffect : Obligations.Mbc1RomloEffect := by
  intro b s hv
  refine ⟨_, exec_mbc1Romlo b s, ?_, ?_, refreshRom_romloSelect_rom0Window b s,
    refreshRom_setRomBankSelect_sameOutsideRomMapping _ s⟩
  · rw [refreshRom_romBankSelect, State.setRomBankSelect_romBankSelect, romloSelect_toNat]
  · rw [refreshRom_romBankSelect, State.setRomBankSelect_romBankSelect, refreshRom_setRomBankSelect_romBank, hv]

end Sys2Proof.Machine
end

section
/-! PROOFS. Region 2, RAM bank and upper ROM bits (spec/42_ram_bank_upper_bits.md R170 to R176), and the frame of region 3
(spec/43_mode_latch.md R195). -/

namespace Sys2Proof.Machine

/-! ### A RAM bank number with its refresh (R38, R42) -/

/-- Everything but the RAM bank number and `ramVis` as before. -/
def SameOutsideRamBank (s t : State) : Prop :=
  t.ramEnabled = s.ramEnabled ∧ t.bankingMode = s.bankingMode ∧ SameRomMapping s t ∧ SameRtc s t ∧ SameSurroundings s t

theorem refreshRam_setRamBankSelect_sameOutsideRamBank (r : BitVec 4) (s : State) :
    SameOutsideRamBank s (refreshRam (s.setRamBankSelect r)) :=
  ⟨rfl, rfl, ⟨rfl, rfl, rfl⟩, ⟨rfl, rfl⟩, .refl s⟩

/-- The refresh shows the new number. -/
theorem refreshRam_setRamBankSelect_ramVis (r : BitVec 4) (s : State) :
    (refreshRam (s.setRamBankSelect r)).ramVis =
      ⟨s.ramEnabled, s.straps.hasRtc && s.rtc.getActive, visibleRamBank r.toNat s.straps.ramBankCount⟩ := by
  rw [refreshRam_eq]
  rfl

/-! ### `MBC1.BANK2` (R170) -/

/-- The bits written are the ones a multicart's block is made of (R37, R40). -/
theorem mergeUpperTwo_block (r : BitVec 9) (u : BitVec 2) : (mergeUpperTwo r u).toNat / 32 % 4 = u.toNat := by
  have hu := u.isLt
  rw [mergeUpperTwo_toNat]
  omega

theorem refreshRom_setRomBankSelect_romBankSelect (r : BitVec 9) (s : State) :
    (refreshRom (s.setRomBankSelect r)).romBankSelect = r :=
  refreshRom_romBankSelect _

/-- Settles O24: RAM-banking mode without the multicart wiring writes the RAM side alone; the two other sub-cases load the upper
bits of the ROM bank number, and `RefreshROM` takes its path by the same mode and wiring. -/
theorem mbc1Bank2Effect : Obligations.Mbc1Bank2Effect := by
  intro u s hv
  by_cases h : s.bankingMode = true ∧ s.straps.multi64Quirk = false
  · have hvis := refreshRam_setRamBankSelect_ramVis (zextRamBank u) s
    rw [zextRamBank_toNat] at hvis
    obtain ⟨henabled, hmode, hrom, hrtc, hsame⟩ := refreshRam_setRamBankSelect_sameOutsideRamBank (zextRamBank u) s
    exact ⟨_, exec_mbc1Bank2_of_ram h u, fun _ _ => ⟨zextRamBank_toNat u, hvis, hrom⟩, by simp [h], by simp [h],
      by simp [h], henabled, hmode, hrtc, hsame⟩
  · obtain ⟨hram, henabled, hmode, hvis, hrtc, hsame⟩ :=
      refreshRom_setRomBankSelect_sameOutsideRomMapping (mergeUpperTwo s.romBankSelect u) s
    refine ⟨_, exec_mbc1Bank2_of_rom h u, fun hb hq => absurd ⟨hb, hq⟩ h, fun _ => ⟨?_, hram, hvis⟩, fun hb hq => ?_,
      fun hb => ?_, henabled, hmode, hrtc, hsame⟩
    all_goals rw [refreshRom_setRomBankSelect_romBankSelect]
    · exact mergeUpperTwo_toNat s.romBankSelect u
    · rw [refreshRom_setRomBankSelect_romBank, refreshRom_setRomBankSelect_rom0Window, if_pos hq, if_pos hb,
        if_pos ⟨hb, hq⟩, mergeUpperTwo_block]
      exact ⟨rfl, rfl⟩
    · rw [refreshRom_setRomBankSelect_romBank, refreshRom_setRomBankSelect_rom0Window, hv]
      simp [hb]

/-- Whichever sub-case, the RAM enable and the mode are kept; unlike the banks this needs no MBC1 cartridge. -/
theorem exec_mbc1Bank2_keepsEnableAndMode (u : BitVec 2) (s : State) :
    ∃ t, exec (.mbc1Bank2 u) s = .next t ∧ t.ramEnabled = s.ramEnabled ∧ t.bankingMode = s.bankingMode := by
  by_cases h : s.bankingMode = true ∧ s.straps.multi64Quirk = false
  · exact ⟨_, exec_mbc1Bank2_of_ram h u, rfl, rfl⟩
  · exact ⟨_, exec_mbc1Bank2_of_rom h u, by rw [refreshRom_eq]; rfl, refreshRom_bankingMode _⟩

/-! ### `MBC3.RAMB` and `MBC5.RAMB` (R173, R174) -/

/-- The two low bits of the byte, as the register takes them. -/
theorem zextRamBank_ofNat_toNat (n : Nat) : (zextRamBank (BitVec.ofNat 2 n)).toNat = n % 4 := by
  rw [zextRamBank_toNat, BitVec.toNat_ofNat]

/-- Settles O25: the bank number and its refresh, in the state the command leaves where there is the chip. -/
theorem mbc3RambEffect : Obligations.Mbc3RambEffect := by
  intro d s
  have hnum := zextRamBank_ofNat_toNat d.toNat
  cases hr : s.straps.hasRtc with
  | false =>
    obtain ⟨henabled, hmode, hrom, hrtc, hsame⟩ :=
      refreshRam_setRamBankSelect_sameOutsideRamBank (zextRamBank (BitVec.ofNat 2 d.toNat)) s
    refine ⟨_, exec_mbc3Ramb_of_no_rtc hr _ d, hnum, nofun, fun _ => hrtc, ?_, henabled, hmode, hrom, hsame⟩
    rw [refreshRam_setRamBankSelect_ramVis, hnum, hr, Bool.false_and, Bool.false_and]
  | true =>
    obtain ⟨henabled, hmode, hrom, ⟨hissued, hport⟩, hsame⟩ :=
      refreshRam_setRamBankSelect_sameOutsideRamBank (zextRamBank (BitVec.ofNat 2 d.toNat)) (rtcSwapActive d s)
    have hvis := refreshRam_setRamBankSelect_ramVis (zextRamBank (BitVec.ofNat 2 d.toNat)) (rtcSwapActive d s)
    rw [hnum, rtcSwapActive_eq, hr] at hvis
    exact ⟨_, exec_mbc3Ramb_swapActive hr _ d, hnum, fun _ => ⟨hissued, hport⟩, nofun, hvis, henabled, hmode, hrom, hsame⟩

/-- Settles O26: the bank number and its refresh. -/
theorem mbc5RambEffect : Obligations.Mbc5RambEffect := fun u s =>
  ⟨_, rfl, rfl, refreshRam_setRamBankSelect_ramVis u s, refreshRam_setRamBankSelect_sameOutsideRamBank u s⟩

/-! ### What no write of a region changes (R176, R195) -/

/-- R176, variant by variant. -/
theorem exec_decodeRegion2_frame (v : Variant) (d : Byte) (s : State) :
    ∃ t, exec (decodeRegion2 v d) s = .next t ∧ t.ramEnabled = s.ramEnabled ∧ t.bankingMode = s.bankingMode
      ∧ (v ≠ .mbc1 → t.romBankSelect = s.romBankSelect) := by
  rw [decodeRegion2_eq]
  cases v with
  | plain | mbc2 => exact ⟨s, rfl, rfl, rfl, fun _ => rfl⟩
  | mbc1 =>
    obtain ⟨t, ht, henabled, hmode⟩ := exec_mbc1Bank2_keepsEnableAndMode (BitVec.ofNat 2 d.toNat) s
    exact ⟨t, ht, henabled, hmode, fun hne => absurd rfl hne⟩
  | mbc3 =>
    obtain ⟨t, ht, -, -, -, -, henabled, hmode, ⟨hsel, -⟩, -⟩ := mbc3RambEffect d s
    exact ⟨t, ht, henabled, hmode, fun _ => hsel⟩
  | mbc5 =>
    obtain ⟨t, ht, -, -, henabled, hmode, ⟨hsel, -⟩, -⟩ := mbc5RambEffect (BitVec.ofNat 4 d.toNat) s
    exact ⟨t, ht, henabled, hmode, fun _ => hsel⟩

/-- The mode, with or without the refresh of a multicart, is the one register `MBC1.MODE` writes (R190). -/
theorem exec_mbc1Mode_keepsOtherRegisters (m : BitVec 1) (s : State) :
    ∃ t, exec (.mbc1Mode m) s = .next t ∧ t.romBankSelect = s.romBankSelect ∧ t.ramBankSelect = s.ramBankSelect
      ∧ t.ramEnabled = s.ramEnabled := by
  cases hq : s.straps.multi64Quirk with
  | false => exact ⟨_, exec_mbc1Mode_of_standard hq m, rfl, rfl, rfl⟩
  | true =>
    refine ⟨_, exec_mbc1Mode_of_multicart hq m, ?_⟩
    rw [refreshRom_eq]
    exact ⟨rfl, rfl, rfl⟩

/-- R195, variant by variant. -/
theorem exec_decodeRegion3_frame (v : Variant) (d : Byte) (s : State) :
    ∃ t, exec (decodeRegion3 v d) s = .next t ∧ t.romBankSelect = s.romBankSelect ∧ t.ramBankSelect = s.ramBankSelect
      ∧ t.ramEnabled = s.ramEnabled ∧ (v ≠ .mbc1 → t.bankingMode = s.bankingMode) := by
  cases v with
  | plain | mbc2 | mbc5 => exact ⟨s, rfl, rfl, rfl, rfl, fun _ => rfl⟩
  | mbc1 =>
    obtain ⟨t, ht, hrom, hram, henabled⟩ := exec_mbc1Mode_keepsOtherRegisters (lowField 1 d) s
    exact ⟨t, ht, hrom, hram, henabled, fun hne => absurd rfl hne⟩
  | mbc3 =>
    obtain ⟨t, ht, -, -, -, hram, henabled, hmode, -, ⟨hrom, -⟩, -⟩ := mbc3LatchEffect d s
    exact ⟨t, ht, hrom, hram, henabled, fun _ => hmode⟩

/-- Settles O29: the address fixes the region, whose operations keep these registers. -/
theorem regionTwoAndThreeFrames : Obligations.RegionTwoAndThreeFrames := by
  intro v a d s t ht
  refine ⟨fun hlo hhi => ?_, fun hlo hhi => ?_⟩
  · obtain ⟨u, hu, hframe⟩ := exec_decodeRegion2_frame v d s
    rw [decode_of_region2 v hlo hhi] at ht
    exact Host.Outcome.next.inj (hu.symm.trans ht) ▸ hframe
  · obtain ⟨u, hu, hframe⟩ := exec_decodeRegion3_frame v d s
    rw [decode_of_region3 v hlo hhi] at ht
    exact Host.Outcome.next.inj (hu.symm.trans ht) ▸ hframe

end Sys2Proof.Machine
end

section
/-! PROOFS. Region 3, banking mode (spec/43_mode_latch.md): the variants that ignore it (R192 to R194), and what `MBC1.MODE` does
and leaves alone (R190). -/

namespace Sys2Proof.Machine

/-! ### The variants without an operation in region 3 -/

/-- Settles O14: the region fixes the row, and the three rows are ignored ones. -/
theorem regionThreeIgnoredByThreeVariants : Obligations.RegionThreeIgnoredByThreeVariants := by
  intro a d s hlo hhi
  have hignored {v : Variant} (hv : v = .plain ∨ v = .mbc2 ∨ v = .mbc5) : exec (decode v (busWord a d)) s = .next s :=
    exec_of_mem_ignoredRows (decode_region3_ignored hv hlo hhi d) s
  exact ⟨⟨decode_of_region3 .plain hlo hhi d, hignored (.inl rfl)⟩,
    ⟨decode_of_region3 .mbc2 hlo hhi d, hignored (.inr (.inl rfl))⟩,
    ⟨decode_of_region3 .mbc5 hlo hhi d, hignored (.inr (.inr rfl))⟩⟩

/-! ### `MBC1.MODE` (R190) -/

/-- Everything but the mode and the two ROM windows as before. -/
def SameOutsideModeAndWindows (s t : State) : Prop :=
  t.romBankSelect = s.romBankSelect ∧ t.ramBankSelect = s.ramBankSelect ∧ t.ramEnabled = s.ramEnabled
    ∧ t.ramVis = s.ramVis ∧ SameRtc s t ∧ SameSurroundings s t

theorem setBankingMode_sameOutsideModeAndWindows (b : Bool) (s : State) :
    SameOutsideModeAndWindows s (s.setBankingMode b) :=
  ⟨rfl, rfl, rfl, rfl, ⟨rfl, rfl⟩, .refl s⟩

theorem refreshRom_setBankingMode_sameOutsideModeAndWindows (b : Bool) (s : State) :
    SameOutsideModeAndWindows s (refreshRom (s.setBankingMode b)) := by
  rw [refreshRom_eq]
  exact setBankingMode_sameOutsideModeAndWindows b s

/-- Entering RAM-banking mode on a multicart takes the multicart path (R40). -/
theorem refreshRom_enterRamMode {s : State} (hq : s.straps.multi64Quirk = true) :
    (refreshRom (s.setBankingMode true)).rom0Window = 16 * (s.romBankSelect.toNat / 32 % 4)
      ∧ (refreshRom (s.setBankingMode true)).romBank = multicartBank s.romBankSelect.toNat := by
  have hpath : multicartPath (s.setBankingMode true) = true := hq
  rw [refreshRom_of_multicartPath hpath, refreshRomMulti_eq]
  exact ⟨rfl, rfl⟩

/-- Leaving it takes the standard path, with the low window put back to bank 0 (R41). -/
theorem refreshRom_leaveRamMode {s : State} (hq : s.straps.multi64Quirk = true) :
    (refreshRom (s.setBankingMode false)).rom0Window = 0
      ∧ (refreshRom (s.setBankingMode false)).romBank =
          standardBank s.straps.variant s.romBankSelect.toNat s.straps.romBankCount := by
  have hstandard : ¬ ((s.setBankingMode false).bankingMode = true ∧ (s.setBankingMode false).straps.multi64Quirk = true) :=
    fun h => Bool.false_ne_true h.1
  rw [refreshRom_eq]
  exact ⟨(if_pos hq).trans (if_neg hstandard), viewRomBank_of_standard hstandard⟩

/-- Settles O27: without the multicart wiring the mode alone is written; with it `RefreshROM` takes its path by the new mode. -/
theorem mbc1ModeEffect : Obligations.Mbc1ModeEffect := by
  intro m s hv
  have hmode := modeValue_eq m
  cases hq : s.straps.multi64Quirk with
  | false =>
    exact ⟨_, exec_mbc1Mode_of_standard hq m, hmode, fun _ => ⟨rfl, rfl⟩, nofun, nofun,
      setBankingMode_sameOutsideModeAndWindows _ s⟩
  | true =>
    refine ⟨_, exec_mbc1Mode_of_multicart hq m, (refreshRom_bankingMode _).trans hmode, nofun, fun _ hm => ?_,
      fun _ hm => ?_, refreshRom_setBankingMode_sameOutsideModeAndWindows _ s⟩
    · have henter : modeValue m = true := by simp [hmode, hm]
      rw [henter]
      exact refreshRom_enterRamMode hq
    · have hleave : modeValue m = false := by simp [hmode, hm]
      rw [hleave, ← hv]
      exact refreshRom_leaveRamMode hq

end Sys2Proof.Machine
end

section
/-! PROOFS. The host operations (spec/44_host_operations.md): CAPTURE and RESTORE as steps (R206, R207), the bank count of an image
(R204), and a LOAD that fails (R210, R231, R237). -/

namespace Sys2Proof.Machine

/-! ### CAPTURE (R206) -/

/-- Settles O45: CAPTURE writes the issued RTC commands, the reply and the count of CAPTUREs, and no other field. -/
theorem captureAnswersTheRawRegisters : Obligations.CaptureAnswersTheRawRegisters := by
  intro s rest hp ha
  have hstep : step s = .next (captureStep (s.setPending rest)) :=
    (step_of_pending_cons hp).trans (whenActive_of_active ha _)
  exact ⟨_, savedStateOf (s.setPending rest), hstep, rfl, rfl, rfl, rfl, rfl, rfl, rfl, rfl, rfl,
    rfl, rfl, rfl, ⟨rfl, rfl, rfl⟩, rfl, rfl⟩

/-! ### RESTORE (R207) -/

/-- Both refreshes run after the registers and the RTC Model, and neither reads an old `romBank` or `ramVis`. -/
theorem restoreStep_showsView {s : State} (h0 : s.straps.multi64Quirk = false → s.rom0Window = 0) (saved : SavedState) :
    (restoreStep saved s).ShowsView := by
  have hrom : (restoreStep saved s).ShowsRomView := refreshRom_showsRomView h0
  have hram : (restoreStep saved s).ramVis = (restoreStep saved s).viewRamVis := by
    unfold restoreStep
    rw [refreshRom_eq]
    rfl
  exact ⟨hrom.1, hrom.2, hram⟩

/-- The enable sent to the RTC Model is false where there is no chip (the spec's D8). -/
theorem restoreStep_rtcIssued (saved : SavedState) (s : State) :
    (restoreStep saved s).rtcIssued = s.rtcIssued ++ [.restore saved.rtc (s.straps.hasRtc && saved.ramEnabled)] := by
  unfold restoreStep
  rw [refreshRom_eq]
  rfl

/-- Settles O46: the registers are the tuple's, and the two refreshes make every latch the view of them. -/
theorem restoreRederivesEveryLatch : Obligations.RestoreRederivesEveryLatch := by
  intro s saved rest hp ha _ h0
  have hstep : step s = .next (restoreStep saved (s.setPending rest)) :=
    (step_of_pending_cons hp).trans (whenActive_of_active ha _)
  obtain ⟨hsel, hrsel, hram, hmode⟩ := restoreStep_registers saved (s.setPending rest)
  exact ⟨_, hstep, hsel, hrsel, hram, hmode, restoreStep_showsView (s := s.setPending rest) h0 saved,
    restoreStep_rtcIssued saved _, restoreStep_straps saved _, restoreStep_buffers saved _⟩

/-! ### The ROM bank count (R204) -/

/-- With fuel enough the doubling reaches `n`. -/
theorem le_doubleUpTo {fuel p n : Nat} (h : n ≤ p * 2 ^ fuel) : n ≤ doubleUpTo fuel p n := by
  induction fuel generalizing p with
  | zero => simpa [doubleUpTo] using h
  | succ fuel ih =>
    unfold doubleUpTo
    split
    · assumption
    · exact ih (by rwa [mul_comm 2 p, mul_assoc, ← pow_succ'])

/-- It stops at the first doubling that reaches `n`, whatever the fuel. -/
theorem doubleUpTo_le {p n k : Nat} (fuel : Nat) (h : n ≤ p * 2 ^ k) : doubleUpTo fuel p n ≤ p * 2 ^ k := by
  have hstart : p ≤ p * 2 ^ k := Nat.le_mul_of_pos_right p (Nat.two_pow_pos k)
  induction fuel generalizing p k with
  | zero => exact hstart
  | succ fuel ih =>
    unfold doubleUpTo
    split
    · exact hstart
    · rename_i hp
      cases k with
      | zero => exact absurd (by simpa using h) hp
      | succ k =>
        have hdouble : p * 2 ^ (k + 1) = 2 * p * 2 ^ k := by rw [pow_succ', mul_comm 2 p, mul_assoc]
        rw [hdouble] at h ⊢
        exact ih h (Nat.le_mul_of_pos_right _ (Nat.two_pow_pos k))

theorem le_pow2ceil (n : Nat) : n ≤ pow2ceil n :=
  le_doubleUpTo (Nat.lt_two_pow_self.le.trans_eq (one_mul (2 ^ n)).symm)

theorem pow2ceil_le {n k : Nat} (h : n ≤ 2 ^ k) : pow2ceil n ≤ 2 ^ k := by
  have hle := doubleUpTo_le n (h.trans_eq (one_mul (2 ^ k)).symm)
  rwa [one_mul] at hle

/-- Settles O48: the maximum of 2 and the least power of two that holds the whole banks. -/
theorem romBankCountIsTheLeastPowerOfTwo : Obligations.RomBankCountIsTheLeastPowerOfTwo := by
  intro size
  exact ⟨romBankCountOf_eq_two_pow size, two_le_romBankCountOf size, le_max_of_le_right (le_pow2ceil _),
    fun k h2 hbanks => max_le h2 (pow2ceil_le hbanks)⟩

/-! ### A LOAD that fails (R210, R231, R237) -/

/-- A LOAD that meets a cause reports the first one that applies, in the order of R237. -/
theorem loadCartridge_of_cause {r : LoadRequest} (s : State)
    (h : r.image.size < 0x4000 ∨ r.header.variant = none ∨ r.readFails = true) :
    loadCartridge r s = .fault (.loadError (if r.image.size < 0x4000 then .undersized
      else if r.header.variant = none then .unsupportedMapper else .readFailure)) := by
  unfold loadCartridge Config.romBankSize
  by_cases hsize : r.image.size < 0x4000
  · simp [hsize]
  · cases hv : r.header.variant with
    | none => simp [hsize]
    | some v =>
      have hread : r.readFails = true := by simpa [hsize, hv] using h
      simp [hsize, hread]

/-- The host takes a LoadError as a report (R231, R239). -/
theorem loadStep_of_loadError {r : LoadRequest} {s : State} {cause : LoadCause}
    (h : loadCartridge r s = .fault (.loadError cause)) : loadStep r s = .next (takeLoadError cause s) := by
  unfold loadStep
  rw [h]

/-- Settles O50: the report writes the reply and whether the buffers are intact, and no other field. -/
theorem failedLoadLeavesTheDecoder : Obligations.FailedLoadLeavesTheDecoder := by
  intro s r rest hp hcause
  have hload := loadStep_of_loadError (loadCartridge_of_cause (s.setPending rest) hcause)
  exact ⟨_, (step_of_pending_cons hp).trans hload, rfl, rfl, rfl, ⟨rfl, rfl, rfl⟩, rfl, rfl, rfl, rfl, ⟨rfl, rfl⟩, rfl⟩

end Sys2Proof.Machine
end

section
/-! PROOFS. The family of spec/60_exceptions.md: no bus write raises anything (R230, R232). -/

namespace Sys2Proof.Machine

/-- Settles O10: `exec` always completes and keeps the surroundings, the ignored rows are the identity, and a step presented a
write is `exec` of the operation it decodes to. -/
theorem busWritesRaiseNothing : Obligations.BusWritesRaiseNothing := by
  refine ⟨exec_sameSurroundings, fun i s hi => exec_of_mem_ignoredRows hi s, fun s a d rest hp ha => ?_⟩
  have hstep : step s = exec (decode s.straps.variant (busWord a d)) (s.setPending rest) :=
    stepRunsTheDecodedWrite.1 s a d rest hp ha
  obtain ⟨t, ht, -⟩ := exec_sameSurroundings (decode s.straps.variant (busWord a d)) (s.setPending rest)
  exact ⟨t, hstep.trans ht⟩

end Sys2Proof.Machine
end
